-- ==== Sys2Proof/Word.lean ====
section
/-! DEFINITION. Bytes, Blocks (00_scope.md §4.1) and the names of the four buffer spaces (20_memory.md R41). -/

namespace Sys2Proof

/-- A byte is 8 bits (00_scope.md §4.1). -/
abbrev Byte := BitVec 8

/-- A Block is a 128-bit value whose byte 0 is the most significant byte (00_scope.md §4.1). -/
abbrev Block := BitVec 128

/-- The three input buffers, which the host writes and the core only reads (10_state.md R30). -/
inductive InSpace where
  | nonce
  | aad
  | din
deriving DecidableEq, Repr

/-- The four data address spaces (20_memory.md R41). -/
inductive Space where
  | nonce
  | aad
  | din
  | dout
deriving DecidableEq, Repr

/-- An input buffer as an address space. -/
def InSpace.toSpace : InSpace → Space
  | .nonce => .nonce
  | .aad => .aad
  | .din => .din

end Sys2Proof
end

