-- ==== Sys2Proof/Config.lean ====
section
/-! DEFINITION. What the spec leaves to the implementation: the block cipher oracle, the default of the greatest nonce
length, and the bytes of an input buffer that the host has not written since reset. -/

namespace Sys2Proof.Config

/-- The block cipher oracle `E(k, b)`, the key first: a parameter of the hardware of which nothing may be assumed but
that it is a function (00_scope.md R2, U8 of 93_implementation_defined.md). No body: assumption log 3. -/
opaque E : Block → Block → Block

/-- The byte that offset `off` of an input buffer holds while the host has not written it since the `epoch`-th reset:
any value (10_state.md R33, U3 of 93_implementation_defined.md). No body: assumption log 4. -/
opaque unspecifiedByte : (epoch : Nat) → (sp : InSpace) → (off : Nat) → Byte

/-- The default of MAX_NONCE_BYTES, the greatest accepted nonce length: above it the bit length of a nonce no longer fits
the 64-bit length field (00_scope.md R5, 92_eei_decisions.md D10). The value itself is OPEN: it is the parameter
`State.maxNonceBytes`, and this is only what `State.reset` has there. Assumption log 5. -/
def defaultMaxNonceBytes : Nat := 2 ^ 61 - 1

end Sys2Proof.Config
end

