-- ==== Sys2Proof/Syntax.lean ====
section
/-! DEFINITION. The operations of the block: one constructor of `Instr` for each row of spec/opcode_table.json, the
micro-operations the sequencer issues, and the form in which an operation reaches the block. -/

namespace Sys2Proof

/-- The twenty micro-operations that PHASE can name, codes 0x02 to 0x15 (30_encoding.md R66). -/
inductive Uop where
  | deriveH
  | j096
  | nghInit
  | nghAbsorb
  | nghLen
  | j0Take
  | ctrInit
  | ksBlock
  | xorText
  | ghInit
  | ghAad
  | ghCt
  | ghLen
  | maskJ0
  | tagForm
  | tagEmit
  | tagCmp
  | release
  | zeroize
  | cleanup
deriving DecidableEq, Repr

/-- The operations of GCMCORE, one constructor per row of spec/opcode_table.json, in the table's order. -/
inductive Instr where
  /-- SEAL as a whole command (44_aead_orchestrator.md R160), with the fields of its command word (30_encoding.md R60). -/
  | sealCmd (tagbits klen : Byte)
  /-- OPEN as a whole command (44_aead_orchestrator.md R161). -/
  | openCmd (tagbits klen : Byte)
  /-- VALIDATE, the launch's check (44_aead_orchestrator.md R162). -/
  | validate
  /-- DERIVE_H (41_counter_keystream.md R103). -/
  | deriveH
  /-- J0_96 (41_counter_keystream.md R104). -/
  | j096
  /-- NGH_INIT (41_counter_keystream.md R105). -/
  | nghInit
  /-- NGH_ABSORB of the nonce block IDX (41_counter_keystream.md R106). -/
  | nghAbsorb
  /-- NGH_LEN (41_counter_keystream.md R107). -/
  | nghLen
  /-- J0_TAKE (41_counter_keystream.md R108). -/
  | j0Take
  /-- CTR_INIT (41_counter_keystream.md R109). -/
  | ctrInit
  /-- KS_BLOCK of the text block IDX (41_counter_keystream.md R110). -/
  | ksBlock
  /-- XOR_TEXT of the text block IDX (41_counter_keystream.md R111). -/
  | xorText
  /-- GH_INIT (42_ghash_accumulator.md R122). -/
  | ghInit
  /-- GH_AAD of the AAD block IDX (42_ghash_accumulator.md R123). -/
  | ghAad
  /-- GH_CT of the text block IDX (42_ghash_accumulator.md R124). -/
  | ghCt
  /-- GH_LEN (42_ghash_accumulator.md R125). -/
  | ghLen
  /-- MASK_J0 (43_tag_engine.md R140). -/
  | maskJ0
  /-- TAG_FORM (43_tag_engine.md R141). -/
  | tagForm
  /-- TAG_EMIT (43_tag_engine.md R142). -/
  | tagEmit
  /-- TAG_CMP (43_tag_engine.md R143). -/
  | tagCmp
  /-- RELEASE (43_tag_engine.md R144). -/
  | release
  /-- ZEROIZE (43_tag_engine.md R145). -/
  | zeroize
  /-- CLEANUP (43_tag_engine.md R146). -/
  | cleanup
  /-- GFMUL of two Blocks, the multiplier by itself (40_gf128_multiplier.md R82, R87). -/
  | gfmul (a b : Block)
  /-- INC32 of a Block by itself (41_counter_keystream.md R100). -/
  | inc32 (v : Block)
  /-- ECALL: one request to the oracle by itself (41_counter_keystream.md R101). -/
  | ecall (b : Block)
  /-- RD of a register other than KEY (45_host_access.md R191). -/
  | rd (reg : Nat)
  /-- RD KEY (45_host_access.md R193). -/
  | rdKey
  /-- WR KEY (45_host_access.md R192). -/
  | wrKey (v : Block)
  /-- WR NLEN (45_host_access.md R194). -/
  | wrNlen (v : BitVec 64)
  /-- WR ALEN (45_host_access.md R194). -/
  | wrAlen (v : BitVec 64)
  /-- WR TLEN (45_host_access.md R194). -/
  | wrTlen (v : BitVec 64)
  /-- WR TAGIN (45_host_access.md R194). -/
  | wrTagin (v : Block)
  /-- WR STATUS, ignored (45_host_access.md R195). -/
  | wrStatus (v : BitVec 32)
  /-- WR TAGOUT and a write to any register number 8 or above, ignored (45_host_access.md R195). -/
  | wrTagout (reg : Nat) (v : Block)
  /-- WR CMD, the launch (45_host_access.md R196). -/
  | wrCmd (w : BitVec 32)
  /-- WRB: host write of one byte (45_host_access.md R197); of DOUT it is ignored (R198). -/
  | wrb (sp : Space) (off : BitVec 64) (b : Byte)
  /-- RDB of an input buffer (45_host_access.md R198). -/
  | rdbIn (sp : InSpace) (off : BitVec 64)
  /-- RDB DOUT, the gated read (45_host_access.md R199). -/
  | rdbDout (off : BitVec 64)
  /-- RESET, the reset event (70_reset_and_hazards.md R240). -/
  | reset
deriving DecidableEq, Repr

/-- An operation as it is issued to the block from outside the sequencer, in the order in which the host issues
operations (45_host_access.md R190). -/
inductive Request where
  /-- A command word performed as one whole command, launch to CLEANUP (30_encoding.md R60; the big step of
  45_host_access.md R190). -/
  | cmd (w : BitVec 32)
  /-- A host read of the register with this number (30_encoding.md R62). -/
  | rd (reg : Nat)
  /-- A host write of the register with this number; the value lies in the low bits (30_encoding.md R62). -/
  | wr (reg : Nat) (v : BitVec 128)
  /-- A host write of one buffer byte. -/
  | wrb (sp : Space) (off : BitVec 64) (b : Byte)
  /-- A host read of one buffer byte. -/
  | rdb (sp : Space) (off : BitVec 64)
  /-- The reset event. -/
  | reset
  /-- The invocation, by itself, of an operation that the sequencer never issues as a PHASE: VALIDATE (0x01) or a unit
  operation (0x20 to 0x22) with the Blocks at the unit's inputs. The model's own device: assumption log 8. -/
  | invoke (code : Byte) (a b : Block)
deriving DecidableEq, Repr

/-- An encoded operation: what PHASE holds, or an issued operation. -/
inductive Code where
  | phase (c : Byte)
  | request (r : Request)
deriving DecidableEq, Repr

end Sys2Proof
end

