-- ==== Sys2Proof/WellFormed.lean ====
section
/-! DEFINITION. Which terms of `Instr` are operations of the spec. Two rows of the table share the operation read and
two share the ignored write, so a register number decides the row; every other operand is well formed by its type. -/

namespace Sys2Proof

/-- A read of register number 2 is RD_KEY, not RD (45_host_access.md R193); WR_TAGOUT stands for register number 7 and
for every number 8 or above (R195). -/
def Instr.wellFormed : Instr → Bool
  | .rd reg => reg != 2
  | .wrTagout reg _ => decide (7 ≤ reg)
  | .sealCmd _ _ => true
  | .openCmd _ _ => true
  | .validate => true
  | .deriveH => true
  | .j096 => true
  | .nghInit => true
  | .nghAbsorb => true
  | .nghLen => true
  | .j0Take => true
  | .ctrInit => true
  | .ksBlock => true
  | .xorText => true
  | .ghInit => true
  | .ghAad => true
  | .ghCt => true
  | .ghLen => true
  | .maskJ0 => true
  | .tagForm => true
  | .tagEmit => true
  | .tagCmp => true
  | .release => true
  | .zeroize => true
  | .cleanup => true
  | .gfmul _ _ => true
  | .inc32 _ => true
  | .ecall _ => true
  | .rdKey => true
  | .wrKey _ => true
  | .wrNlen _ => true
  | .wrAlen _ => true
  | .wrTlen _ => true
  | .wrTagin _ => true
  | .wrStatus _ => true
  | .wrCmd _ => true
  | .wrb _ _ _ => true
  | .rdbIn _ _ => true
  | .rdbDout _ => true
  | .reset => true

end Sys2Proof
end

