-- ==== Sys2Proof/Decode.lean ====
section
/-! DEFINITION. Decoding and encoding: the command word (30_encoding.md R60), the micro-operation codes (R66), the
register numbers (R62), and the host's way of asking for a row of spec/opcode_table.json. -/

namespace Sys2Proof

/-! ## Fields of the command word (30_encoding.md R60) -/

/-- OP, bits [7:0]. -/
def cmdOp (w : BitVec 32) : Byte := w.extractLsb' 0 8

/-- TAGBITS, bits [15:8]. -/
def cmdTagbits (w : BitVec 32) : Byte := w.extractLsb' 8 8

/-- KLEN, bits [23:16]. -/
def cmdKlen (w : BitVec 32) : Byte := w.extractLsb' 16 8

/-- RSV, bits [31:24]. -/
def cmdRsv (w : BitVec 32) : Byte := w.extractLsb' 24 8

/-- OP of SEAL. -/
def opSeal : Byte := 0x01#8

/-- OP of OPEN. -/
def opOpen : Byte := 0x02#8

/-- The command word with these fields and RSV = 0. -/
def cmdWord (op tagbits klen : Byte) : BitVec 32 := 0x00#8 ++ klen ++ tagbits ++ op

/-! ## Micro-operation codes (30_encoding.md R66) -/

/-- The code of a micro-operation that PHASE can name. -/
def Uop.code : Uop → Byte
  | .deriveH => 0x02#8
  | .j096 => 0x03#8
  | .nghInit => 0x04#8
  | .nghAbsorb => 0x05#8
  | .nghLen => 0x06#8
  | .j0Take => 0x07#8
  | .ctrInit => 0x08#8
  | .ksBlock => 0x09#8
  | .xorText => 0x0A#8
  | .ghInit => 0x0B#8
  | .ghAad => 0x0C#8
  | .ghCt => 0x0D#8
  | .ghLen => 0x0E#8
  | .maskJ0 => 0x0F#8
  | .tagForm => 0x10#8
  | .tagEmit => 0x11#8
  | .tagCmp => 0x12#8
  | .release => 0x13#8
  | .zeroize => 0x14#8
  | .cleanup => 0x15#8

/-- The micro-operation a PHASE value names; none outside 0x02 to 0x15 (30_encoding.md R67(e)). -/
def Uop.ofCode (c : Byte) : Option Uop :=
  match c.toNat with
  | 0x02 => some .deriveH
  | 0x03 => some .j096
  | 0x04 => some .nghInit
  | 0x05 => some .nghAbsorb
  | 0x06 => some .nghLen
  | 0x07 => some .j0Take
  | 0x08 => some .ctrInit
  | 0x09 => some .ksBlock
  | 0x0A => some .xorText
  | 0x0B => some .ghInit
  | 0x0C => some .ghAad
  | 0x0D => some .ghCt
  | 0x0E => some .ghLen
  | 0x0F => some .maskJ0
  | 0x10 => some .tagForm
  | 0x11 => some .tagEmit
  | 0x12 => some .tagCmp
  | 0x13 => some .release
  | 0x14 => some .zeroize
  | 0x15 => some .cleanup
  | _ => none

/-- The row of the table a micro-operation is. -/
def Uop.toInstr : Uop → Instr
  | .deriveH => .deriveH
  | .j096 => .j096
  | .nghInit => .nghInit
  | .nghAbsorb => .nghAbsorb
  | .nghLen => .nghLen
  | .j0Take => .j0Take
  | .ctrInit => .ctrInit
  | .ksBlock => .ksBlock
  | .xorText => .xorText
  | .ghInit => .ghInit
  | .ghAad => .ghAad
  | .ghCt => .ghCt
  | .ghLen => .ghLen
  | .maskJ0 => .maskJ0
  | .tagForm => .tagForm
  | .tagEmit => .tagEmit
  | .tagCmp => .tagCmp
  | .release => .release
  | .zeroize => .zeroize
  | .cleanup => .cleanup

/-! ## Decoding -/

/-- Why a code is no operation of the spec. -/
inductive DecodeError where
  /-- A command word whose OP is neither 0x01 nor 0x02, or whose RSV is not zero (30_encoding.md R67(a)). -/
  | reservedCommand (w : BitVec 32)
  /-- A PHASE value outside 0x02 to 0x15 (30_encoding.md R67(e)). -/
  | notAPhase (c : Byte)
  /-- An invoked code that is neither VALIDATE nor a unit operation (30_encoding.md R66). -/
  | notInvocable (c : Byte)
  /-- A Block at an input that the invoked operation does not have. -/
  | unusedInput (c : Byte)
  /-- A value wider than the register it is written to; registers are accessed at their full width (30_encoding.md R62). -/
  | valueTooWide (reg : Nat)
deriving DecidableEq, Repr

/-- What decoding answers. -/
inductive Decoded where
  | ok (i : Instr)
  | rejected (e : DecodeError)
deriving DecidableEq, Repr

/-- The instruction, where there is one. -/
def Decoded.instr? : Decoded → Option Instr
  | .ok i => some i
  | .rejected _ => none

/-- Format CMD: every word is a SEAL, an OPEN or reserved (30_encoding.md R60, R67(a)). -/
def decodeCmd (w : BitVec 32) : Decoded :=
  if cmdRsv w ≠ 0#8 then .rejected (.reservedCommand w)
  else if cmdOp w = opSeal then .ok (.sealCmd (cmdTagbits w) (cmdKlen w))
  else if cmdOp w = opOpen then .ok (.openCmd (cmdTagbits w) (cmdKlen w))
  else .rejected (.reservedCommand w)

/-- Format UOP in PHASE (30_encoding.md R66). -/
def decodePhase (c : Byte) : Decoded :=
  match Uop.ofCode c with
  | some u => .ok u.toInstr
  | none => .rejected (.notAPhase c)

/-- The codes that are never a PHASE: VALIDATE and the unit operations (30_encoding.md R66). -/
def decodeInvoke (c : Byte) (a b : Block) : Decoded :=
  match c.toNat with
  | 0x01 => if a = 0#128 ∧ b = 0#128 then .ok .validate else .rejected (.unusedInput c)
  | 0x20 => .ok (.gfmul a b)
  | 0x21 => if b = 0#128 then .ok (.inc32 a) else .rejected (.unusedInput c)
  | 0x22 => if b = 0#128 then .ok (.ecall a) else .rejected (.unusedInput c)
  | _ => .rejected (.notInvocable c)

/-- A host read by register number (30_encoding.md R62; 45_host_access.md R191, R193). -/
def decodeRd (reg : Nat) : Decoded :=
  if reg = 2 then .ok .rdKey else .ok (.rd reg)

/-- A host write by register number, the value in the register's width (30_encoding.md R62; 45_host_access.md R192,
R194, R195, R196). -/
def decodeWr (reg : Nat) (v : BitVec 128) : Decoded :=
  match reg with
  | 0 => if v.toNat < 2 ^ 32 then .ok (.wrCmd (v.setWidth 32)) else .rejected (.valueTooWide 0)
  | 1 => if v.toNat < 2 ^ 32 then .ok (.wrStatus (v.setWidth 32)) else .rejected (.valueTooWide 1)
  | 2 => .ok (.wrKey v)
  | 3 => if v.toNat < 2 ^ 64 then .ok (.wrNlen (v.setWidth 64)) else .rejected (.valueTooWide 3)
  | 4 => if v.toNat < 2 ^ 64 then .ok (.wrAlen (v.setWidth 64)) else .rejected (.valueTooWide 4)
  | 5 => if v.toNat < 2 ^ 64 then .ok (.wrTlen (v.setWidth 64)) else .rejected (.valueTooWide 5)
  | 6 => .ok (.wrTagin v)
  | _ => .ok (.wrTagout reg v)

/-- A host read of one buffer byte (45_host_access.md R198, R199). -/
def decodeRdb (sp : Space) (off : BitVec 64) : Decoded :=
  match sp with
  | .nonce => .ok (.rdbIn .nonce off)
  | .aad => .ok (.rdbIn .aad off)
  | .din => .ok (.rdbIn .din off)
  | .dout => .ok (.rdbDout off)

/-- An issued operation. -/
def decodeRequest : Request → Decoded
  | .cmd w => decodeCmd w
  | .rd reg => decodeRd reg
  | .wr reg v => decodeWr reg v
  | .wrb sp off b => .ok (.wrb sp off b)
  | .rdb sp off => decodeRdb sp off
  | .reset => .ok .reset
  | .invoke c a b => decodeInvoke c a b

/-- Decoding, total: every code is an operation or is rejected by name. -/
def decode : Code → Decoded
  | .phase c => decodePhase c
  | .request r => decodeRequest r

/-! ## Encoding -/

/-- The code of an operation (30_encoding.md R60, R62, R66). -/
def encode : Instr → Code
  | .sealCmd tagbits klen => .request (.cmd (cmdWord opSeal tagbits klen))
  | .openCmd tagbits klen => .request (.cmd (cmdWord opOpen tagbits klen))
  | .validate => .request (.invoke 0x01#8 0#128 0#128)
  | .deriveH => .phase 0x02#8
  | .j096 => .phase 0x03#8
  | .nghInit => .phase 0x04#8
  | .nghAbsorb => .phase 0x05#8
  | .nghLen => .phase 0x06#8
  | .j0Take => .phase 0x07#8
  | .ctrInit => .phase 0x08#8
  | .ksBlock => .phase 0x09#8
  | .xorText => .phase 0x0A#8
  | .ghInit => .phase 0x0B#8
  | .ghAad => .phase 0x0C#8
  | .ghCt => .phase 0x0D#8
  | .ghLen => .phase 0x0E#8
  | .maskJ0 => .phase 0x0F#8
  | .tagForm => .phase 0x10#8
  | .tagEmit => .phase 0x11#8
  | .tagCmp => .phase 0x12#8
  | .release => .phase 0x13#8
  | .zeroize => .phase 0x14#8
  | .cleanup => .phase 0x15#8
  | .gfmul a b => .request (.invoke 0x20#8 a b)
  | .inc32 v => .request (.invoke 0x21#8 v 0#128)
  | .ecall b => .request (.invoke 0x22#8 b 0#128)
  | .rd reg => .request (.rd reg)
  | .rdKey => .request (.rd 2)
  | .wrKey v => .request (.wr 2 v)
  | .wrNlen v => .request (.wr 3 (v.setWidth 128))
  | .wrAlen v => .request (.wr 4 (v.setWidth 128))
  | .wrTlen v => .request (.wr 5 (v.setWidth 128))
  | .wrTagin v => .request (.wr 6 v)
  | .wrStatus v => .request (.wr 1 (v.setWidth 128))
  | .wrTagout reg v => .request (.wr reg v)
  | .wrCmd w => .request (.wr 0 (w.setWidth 128))
  | .wrb sp off b => .request (.wrb sp off b)
  | .rdbIn sp off => .request (.rdb sp.toSpace off)
  | .rdbDout off => .request (.rdb .dout off)
  | .reset => .request .reset

/-! ## Rows of spec/opcode_table.json -/

/-- The code that a table row's bits stand for. A row of more than one byte is a command word. A row of one byte is a
micro-operation code, with operand Blocks of zeros where it is a unit operation; the byte 0x00, which is no code of
R66, is register number 0, a host write of CMD with an operand word of zeros. Register numbers 1 to 7 are the same
bytes as the codes 0x01 to 0x07 and are read as those: assumption log 12. -/
def tableCode (nbits w : Nat) : Code :=
  if 8 < nbits then .request (.cmd (BitVec.ofNat 32 w))
  else if w = 0 then .request (.wr 0 0#128)
  else
    match Uop.ofCode (BitVec.ofNat 8 w) with
    | some _ => .phase (BitVec.ofNat 8 w)
    | none => .request (.invoke (BitVec.ofNat 8 w) 0#128 0#128)

/-- The instruction the decoder reads from a table row's bits. -/
def decodeTableWord (nbits w : Nat) : Option Instr :=
  (decode (tableCode nbits w)).instr?

end Sys2Proof
end

