-- ==== Sys2Proof/Machine/State.lean ====
section
/-! DEFINITION. The state of GCMCORE (10_state.md R10 to R30), why a step can stop, and the state after reset (R33). -/

namespace Sys2Proof.Machine

open Sys2Proof

/-- The content of one buffer: the bytes it lists, by rising offset. What an unlisted offset reads as is
`bufferDefault` of Machine/Ops.lean. -/
abbrev Memory := List Host.Cell

/-- The values of the 3-bit register STATE (10_state.md R25); their codes are `StateCode.code` (30_encoding.md R64). -/
inductive StateCode where
  | idle
  | keystreamApplied
  | tagComputed
  | sealed
  | opened
  | rejected
deriving DecidableEq, Repr

/-- The values of the 2-bit field ERR (10_state.md R26); their codes are `ErrKind.code` (30_encoding.md R65). -/
inductive ErrKind where
  | none
  | invalidInput
  | authFailure
deriving DecidableEq, Repr

/-- The values of the 4-bit field CAUSE (10_state.md R26); their codes are `Cause.code` (30_encoding.md R65). -/
inductive Cause where
  | none
  | key
  | nonceZero
  | tagLen
  | textTooLong
  | aadTooLong
  | reservedCmd
  | nonceTooLong
deriving DecidableEq, Repr

/-- The whole state. The fields down to `dout` are the spec's (10_state.md R10); the last five are the model's own. -/
structure State where
  /-- KEY, the key K (10_state.md R12). -/
  key : Block
  /-- H, the hash subkey (10_state.md R13). -/
  h : Block
  /-- J0, the pre-counter block (10_state.md R14). -/
  j0 : Block
  /-- CB, the counter block (10_state.md R15). -/
  cb : Block
  /-- KS, the current keystream block (10_state.md R16). -/
  ks : Block
  /-- S, the GHASH state (10_state.md R17). -/
  sReg : Block
  /-- EJ0, the tag mask (10_state.md R18). -/
  ej0 : Block
  /-- T, the full tag value (10_state.md R19). -/
  tReg : Block
  /-- TAGIN, the received tag (10_state.md R20). -/
  tagin : Block
  /-- TAGOUT, the emitted tag (10_state.md R21). -/
  tagout : Block
  /-- DIFF, the comparison accumulator (10_state.md R22). -/
  diff : Byte
  /-- KEY_VALID (10_state.md R23). -/
  keyValid : Bool
  /-- H_VALID (10_state.md R23). -/
  hValid : Bool
  /-- RUN (10_state.md R24). -/
  run : Bool
  /-- PHASE, the code of the next micro-operation while RUN = 1 (10_state.md R24). -/
  phase : Byte
  /-- IDX, the block index (10_state.md R24). -/
  idx : BitVec 64
  /-- STATE (10_state.md R25). -/
  state : StateCode
  /-- ERR (10_state.md R26). -/
  err : ErrKind
  /-- CAUSE (10_state.md R26). -/
  cause : Cause
  /-- CMD, the last command word (10_state.md R27). -/
  cmd : BitVec 32
  /-- NLEN, the nonce length in bytes (10_state.md R28). -/
  nlen : BitVec 64
  /-- ALEN, the length of the associated data in bytes (10_state.md R28). -/
  alen : BitVec 64
  /-- TLEN, the text length in bytes (10_state.md R28). -/
  tlen : BitVec 64
  /-- NONCE: the bytes the host has written since reset (10_state.md R30). -/
  nonce : Memory
  /-- AAD: the bytes the host has written since reset (10_state.md R30). -/
  aad : Memory
  /-- DIN: the bytes the host has written since reset (10_state.md R30). -/
  din : Memory
  /-- DOUT: the bytes that are not zero (10_state.md R30). -/
  dout : Memory
  /-- The model's own: the operations issued and not yet performed, oldest first (45_host_access.md R190; log 1). -/
  pending : List Request
  /-- The model's own: what the host's reads have returned, newest first (45_host_access.md R191; log 9). -/
  rdLog : List Block
  /-- The model's own: the result of the last unit operation performed by itself (40_gf128_multiplier.md R87; log 8). -/
  unitOut : Block
  /-- The model's own: how many resets there have been, the index of the input buffers' free bytes (log 4). -/
  epoch : Nat
  /-- The model's own: the OPEN parameter MAX_NONCE_BYTES of this block, the greatest accepted nonce length (00_scope.md
  R5). To the spec it is no state but an argument of the step (10_state.md R10); `exec` and `step` have only the state as
  an argument, so it stands here, any value, and nothing writes it (log 5). -/
  maxNonceBytes : Nat
deriving DecidableEq, Repr

/-- Why the machine stops with a fault. -/
inductive Fault where
  /-- Raised by `step` when RUN = 1 and PHASE is outside 0x02 to 0x15, which "cannot arise" (30_encoding.md R67(e)).
  Safe: the model stops in a state no run from reset reaches. -/
  | phaseOutsideRange
deriving DecidableEq, Repr

/-- Why an operation has no meaning. -/
inductive Refusal where
  /-- Raised by an arm of `exec` whose instruction has no meaning yet. Safe. No arm raises it. -/
  | notModelled (mnemonic : String)
  /-- Raised by `step` when the oldest pending request is no operation of the spec: a value wider than the register it
  is written to, or an invoked code that is neither VALIDATE nor a unit operation. Safe: the spec has no such request. -/
  | malformedRequest
deriving DecidableEq, Repr

/-- The state right after reset: every register and flag zero, every byte of DOUT zero, no byte of the input buffers
written (10_state.md R33); the parameter MAX_NONCE_BYTES at its default (log 5). -/
def State.reset : State where
  key := 0#128
  h := 0#128
  j0 := 0#128
  cb := 0#128
  ks := 0#128
  sReg := 0#128
  ej0 := 0#128
  tReg := 0#128
  tagin := 0#128
  tagout := 0#128
  diff := 0#8
  keyValid := false
  hValid := false
  run := false
  phase := 0#8
  idx := 0#64
  state := .idle
  err := .none
  cause := .none
  cmd := 0#32
  nlen := 0#64
  alen := 0#64
  tlen := 0#64
  nonce := []
  aad := []
  din := []
  dout := []
  pending := []
  rdLog := []
  unitOut := 0#128
  epoch := 0
  maxNonceBytes := Config.defaultMaxNonceBytes

end Sys2Proof.Machine
end

