-- ==== Sys2Proof/Machine/Params.lean ====
section
/-! DEFINITION. The parameters of 00_scope.md R5 whose values the spec fixes. -/

namespace Sys2Proof.Machine

open Sys2Proof

/-- R_CONST, the Block of x^7 + x^2 + x + 1 (40_gf128_multiplier.md R88). -/
def rConst : Block := 0xE1000000000000000000000000000000#128

/-- CTR0, the low 32 bits of J0 for a 12-byte nonce (00_scope.md R5, G1). -/
def ctr0 : BitVec 32 := 1#32

/-- CANON_NONCE_BYTES (00_scope.md R5). -/
def canonNonceBytes : Nat := 12

/-- MAX_TEXT_BYTES = 2^36 - 32 (00_scope.md R5, C3). -/
def maxTextBytes : Nat := 2 ^ 36 - 32

/-- MAX_AAD_BYTES = 2^36 - 32 (00_scope.md R5, C3). -/
def maxAadBytes : Nat := 2 ^ 36 - 32

/-- The only accepted KLEN (30_encoding.md R60; KEY_BITS / 8 of 00_scope.md R5). -/
def keyBytes : Nat := 16

/-- TAG_BITS_SET (00_scope.md R5, D9). -/
def tagBitsSet : List Nat := [96, 104, 112, 120, 128]

end Sys2Proof.Machine
end

