-- ==== Sys2Proof/Machine/Ops.lean ====
section
/-! DEFINITION. The named operations over buffers and registers: byte lookup and write, MemRead and MemWrite
(20_memory.md R42, R43), the host hold (45_host_access.md R190), taking an exception (60_exceptions.md R214, R215) and
the erasures of the launch, of CLEANUP and of reset. -/

namespace Sys2Proof.Machine

open Sys2Proof

/-! ## One buffer -/

/-- The byte a buffer lists at an offset, if any. -/
def memLookup (m : Memory) (a : Nat) : Option Byte :=
  match m with
  | [] => none
  | (a', b) :: rest => if a = a' then some b else memLookup rest a

/-- List a byte at an offset, in its place. -/
def memInsert (m : Memory) (a : Nat) (b : Byte) : Memory :=
  match m with
  | [] => [(a, b)]
  | (a', b') :: rest =>
    if a < a' then (a, b) :: (a', b') :: rest
    else if a = a' then (a, b) :: rest
    else (a', b') :: memInsert rest a b

/-- Stop listing an offset. -/
def memErase (m : Memory) (a : Nat) : Memory :=
  m.filter fun cell => cell.1 != a

/-- Write a byte to a buffer whose unlisted offsets read as `dflt`: the value an unlisted offset reads as is not listed. -/
def memWrite (dflt : Option Byte) (m : Memory) (a : Nat) (b : Byte) : Memory :=
  if some b = dflt then memErase m a else memInsert m a b

/-- Write consecutive bytes. -/
def memWriteBytes (dflt : Option Byte) (m : Memory) (a : Nat) : List Byte → Memory
  | [] => m
  | b :: rest => memWriteBytes dflt (memWrite dflt m a b) (a + 1) rest

/-- Offsets strictly rising. -/
def memRising : Memory → Bool
  | [] => true
  | [_] => true
  | (a, _) :: (a', b') :: rest => decide (a < a') && memRising ((a', b') :: rest)

/-- The canonical form of a buffer whose unlisted offsets read as `dflt`: offsets strictly rising, and no listed byte
that an unlisted offset would read as. -/
def Memory.wf (dflt : Option Byte) (m : Memory) : Bool :=
  memRising m && m.all fun cell => some cell.2 != dflt

/-- What an unlisted offset of a buffer reads as: zero in DOUT (10_state.md R33: every byte 0 after reset); no value in
an input buffer, whose bytes are unspecified until the host writes them (R33, U3; assumption log 4). -/
def bufferDefault : Space → Option Byte
  | .nonce => none
  | .aad => none
  | .din => none
  | .dout => some 0#8

/-! ## The buffers of a state (20_memory.md R41) -/

/-- The content of an input buffer. -/
def State.inBuffer (s : State) : InSpace → Memory
  | .nonce => s.nonce
  | .aad => s.aad
  | .din => s.din

/-- The byte an input buffer holds: the host's, or a free value where the host has written none since reset (10_state.md
R33, 45_host_access.md R200). -/
def State.inByte (s : State) (sp : InSpace) (off : Nat) : Byte :=
  (memLookup (s.inBuffer sp) off).getD (Config.unspecifiedByte s.epoch sp off)

/-- The byte DOUT holds. -/
def State.doutByte (s : State) (off : Nat) : Byte :=
  (memLookup s.dout off).getD 0#8

/-- The byte at an offset of a buffer. -/
def State.readByte (s : State) (sp : Space) (off : Nat) : Byte :=
  match sp with
  | .nonce => s.inByte .nonce off
  | .aad => s.inByte .aad off
  | .din => s.inByte .din off
  | .dout => s.doutByte off

/-- MemRead: the `n` bytes at `off` and above, the byte at `off` first, most significant (20_memory.md R42). -/
def State.memRead (s : State) (sp : Space) (off n : Nat) : List Byte :=
  (List.range n).map fun k => s.readByte sp (off + k)

/-- MemWrite to DOUT, the only buffer the core writes: these bytes at `off` and above, in order (20_memory.md R43). -/
def State.memWriteDout (s : State) (off : Nat) (bs : List Byte) : State :=
  { s with dout := memWriteBytes (bufferDefault .dout) s.dout off bs }

/-- Every byte of DOUT zero (43_tag_engine.md R145, 45_host_access.md R196, 70_reset_and_hazards.md R240). -/
def State.clearDout (s : State) : State :=
  { s with dout := [] }

/-- Host write of one byte (45_host_access.md R197); DOUT is not the host's to write (R198). -/
def State.hostWriteByte (s : State) (sp : Space) (off : Nat) (b : Byte) : State :=
  match sp with
  | .nonce => { s with nonce := memWrite (bufferDefault .nonce) s.nonce off b }
  | .aad => { s with aad := memWrite (bufferDefault .aad) s.aad off b }
  | .din => { s with din := memWrite (bufferDefault .din) s.din off b }
  | .dout => s

/-! ## Exceptions (60_exceptions.md) -/

/-- Taking an exception: ERR and CAUSE record it and nothing else happens; there is no saved state, vector or mode
(60_exceptions.md R210, R214, R215). -/
def State.takeException (s : State) (e : ErrKind) (c : Cause) : State :=
  { s with err := e, cause := c }

/-- What stands for a return from an exception: the next launch clears ERR and CAUSE (60_exceptions.md R217). -/
def State.clearException (s : State) : State :=
  { s with err := .none, cause := .none }

/-! ## Whole-state updates -/

/-- What every launch erases and stores before it validates (45_host_access.md R196). -/
def State.beginLaunch (s : State) (w : BitVec 32) : State :=
  { s.clearException.clearDout with cmd := w, state := .idle, tagout := 0#128 }

/-- The sequencer position (10_state.md R24). -/
def State.setSeq (s : State) (u : Uop) (i : BitVec 64) : State :=
  { s with phase := u.code, idx := i }

/-- The temporaries of a command become zero and the command is over (43_tag_engine.md R146). -/
def State.endCommand (s : State) : State :=
  { s with
    j0 := 0#128, cb := 0#128, ks := 0#128, sReg := 0#128, ej0 := 0#128, tReg := 0#128, diff := 0#8,
    run := false, phase := 0#8, idx := 0#64 }

/-- The reset event: every register, flag and byte of DOUT at its reset value (70_reset_and_hazards.md R240). The bytes
of the input buffers are unspecified from here on, so none is listed and the free values are those of a new epoch
(assumption log 4). What was issued and not performed stays so; the reads already answered stay answered; the
parameter MAX_NONCE_BYTES is no state that a reset could change (assumption log 5). -/
def State.resetEvent (s : State) : State :=
  { State.reset with
    pending := s.pending, rdLog := s.rdLog, unitOut := s.unitOut, epoch := s.epoch + 1,
    maxNonceBytes := s.maxNonceBytes }

/-! ## Host operations -/

/-- A host operation issued while RUN = 1 is held, unchanged, behind those issued before it (45_host_access.md R190). -/
def State.hold (s : State) (r : Request) : State :=
  { s with pending := s.pending ++ [r] }

/-- The answer of a host read. -/
def State.answer (s : State) (v : Block) : State :=
  { s with rdLog := v :: s.rdLog }

/-- A host operation: performed while RUN = 0, held while RUN = 1 (45_host_access.md R190). -/
def State.hostOp (s : State) (r : Request) (performed : State) : State :=
  if s.run then s.hold r else performed

/-- Other operations issued and not yet performed. -/
def State.withPending (s : State) (rs : List Request) : State :=
  { s with pending := rs }

/-- A reset has arrived among the operations issued. -/
def State.resetArrived (s : State) : Bool :=
  s.pending.contains .reset

/-- The first arrived reset taken out of the operations issued. -/
def State.takeReset (s : State) : State :=
  s.withPending (s.pending.erase .reset)

end Sys2Proof.Machine
end

