-- ==== Sys2Proof/Machine/Operands.lean ====
section
/-! DEFINITION. Operand forms: the bytes of a Block (00_scope.md §4.1), block counts and the tag length (30_encoding.md
R61), padded blocks (42_ghash_accumulator.md R120), length blocks (R127, 41_counter_keystream.md R107), truncation
(43_tag_engine.md R147). -/

namespace Sys2Proof.Machine

open Sys2Proof

/-! ## Blocks and bytes -/

/-- `byte(V, k)`, for `k` at most 15: integer bits 127 - 8k down to 120 - 8k (00_scope.md §4.1). -/
def byteAt (v : Block) (k : Nat) : Byte := v.extractLsb' (120 - 8 * k) 8

/-- The sixteen bytes of a Block, byte 0 first. -/
def bytesOfBlock (v : Block) : List Byte := (List.range 16).map (byteAt v)

/-- At most `n` bytes as the leading bytes of an `n`-byte value, zero bytes after. -/
def packBytes : (n : Nat) → List Byte → Block
  | 0, _ => 0#128
  | _ + 1, [] => 0#128
  | n + 1, b :: rest => (b.setWidth 128 <<< (8 * n)) ||| packBytes n rest

/-- Bytes, the first most significant, filled with zero bytes on the right to a Block. -/
def blockOfBytes (bs : List Byte) : Block := packBytes 16 bs

/-! ## Counts (30_encoding.md R61) -/

/-- `nblk(L) = (L + 15) div 16` (00_scope.md §4.1). -/
def nblk (len : Nat) : Nat := (len + 15) / 16

/-- The number of bytes of block `i` of `len` bytes: `min(16, len - 16 i)` (42_ghash_accumulator.md R120). Below the
block count this is 1 to 16; beyond it, where no run goes, it is 0 (assumption log 10). -/
def blockBytes (len i : Nat) : Nat := min 16 (len - 16 * i)

/-- `n`, the number of text blocks. -/
def State.textBlocks (s : State) : Nat := nblk s.tlen.toNat

/-- `na`, the number of AAD blocks. -/
def State.aadBlocks (s : State) : Nat := nblk s.alen.toNat

/-- `nb`, the number of nonce blocks. -/
def State.nonceBlocks (s : State) : Nat := nblk s.nlen.toNat

/-- `t = TAGBITS div 8`, the tag length in bytes. -/
def State.tagBytes (s : State) : Nat := (cmdTagbits s.cmd).toNat / 8

/-! ## Blocks read from buffers -/

/-- PADBLK: block `i` of the `len` bytes of a buffer, zero-padded on the right (42_ghash_accumulator.md R120,
20_memory.md R44). -/
def State.padBlk (s : State) (sp : Space) (len i : Nat) : Block :=
  blockOfBytes (s.memRead sp (16 * i) (blockBytes len i))

/-- Where the ciphertext is: DOUT for SEAL, DIN otherwise (42_ghash_accumulator.md R124). -/
def State.ctSpace (s : State) : Space := if cmdOp s.cmd = opSeal then .dout else .din

/-- LENBLK: both lengths in bits, 64-bit big-endian, the AAD's first (42_ghash_accumulator.md R127). -/
def lenBlk (la lc : Nat) : Block := BitVec.ofNat 64 (8 * la) ++ BitVec.ofNat 64 (8 * lc)

/-- The length block of the nonce hash: 64 zero bits, then the nonce's bit length (41_counter_keystream.md R107). -/
def nonceLenBlk (ln : Nat) : Block := 0#64 ++ BitVec.ofNat 64 (8 * ln)

/-! ## Truncation -/

/-- TRUNC: bytes 0 to `t - 1` kept, the others zero (43_tag_engine.md R147). -/
def trunc (v : Block) (t : Nat) : Block := (v >>> (128 - 8 * t)) <<< (128 - 8 * t)

end Sys2Proof.Machine
end

