-- ==== Sys2Proof/Machine/Flags.lean ====
section
/-! DEFINITION. Codes and flag computations: STATE, ERR and CAUSE codes (30_encoding.md R64, R65), the STATUS word (R63),
the validity checks in their order (44_aead_orchestrator.md R162) and the comparison accumulator (43_tag_engine.md R143). -/

namespace Sys2Proof.Machine

open Sys2Proof

/-- The codes of STATE (30_encoding.md R64). -/
def StateCode.code : StateCode → BitVec 3
  | .idle => 0#3
  | .keystreamApplied => 1#3
  | .tagComputed => 2#3
  | .sealed => 3#3
  | .opened => 4#3
  | .rejected => 5#3

/-- The codes of ERR (30_encoding.md R65). -/
def ErrKind.code : ErrKind → BitVec 2
  | .none => 0#2
  | .invalidInput => 1#2
  | .authFailure => 2#2

/-- The codes of CAUSE (30_encoding.md R65). -/
def Cause.code : Cause → BitVec 4
  | .none => 0#4
  | .key => 1#4
  | .nonceZero => 2#4
  | .tagLen => 3#4
  | .textTooLong => 4#4
  | .aadTooLong => 5#4
  | .reservedCmd => 6#4
  | .nonceTooLong => 7#4

/-- The STATUS word: H_VALID at bit 17, KEY_VALID at 16, CAUSE at [11:8], ERR at [5:4], STATE at [2:0], zero elsewhere
(30_encoding.md R63). -/
def State.status (s : State) : BitVec 32 :=
  0#14 ++ BitVec.ofBool s.hValid ++ BitVec.ofBool s.keyValid ++ 0#4 ++ s.cause.code ++ 0#2 ++ s.err.code ++ 0#1
    ++ s.state.code

/-- The first failing check of VALIDATE, in its order; none when the command is valid
(44_aead_orchestrator.md R162). -/
def State.invalidCause (s : State) : Option Cause :=
  if cmdRsv s.cmd ≠ 0#8 ∨ (cmdOp s.cmd ≠ opSeal ∧ cmdOp s.cmd ≠ opOpen) then some .reservedCmd
  else if (cmdKlen s.cmd).toNat ≠ keyBytes ∨ s.keyValid = false then some .key
  else if s.nlen.toNat = 0 then some .nonceZero
  else if s.maxNonceBytes < s.nlen.toNat then some .nonceTooLong
  else if (cmdTagbits s.cmd).toNat ∉ tagBitsSet then some .tagLen
  else if maxTextBytes < s.tlen.toNat then some .textTooLong
  else if maxAadBytes < s.alen.toNat then some .aadTooLong
  else none

/-- The OR of the byte differences of two Blocks over the first `t` bytes, all of them always (43_tag_engine.md R143). -/
def tagDiff (x y : Block) (t : Nat) : Byte :=
  (List.range (min t 16)).foldl (fun d k => d ||| (byteAt x k ^^^ byteAt y k)) 0#8

end Sys2Proof.Machine
end

