-- ==== Sys2Proof/Machine/Field.lean ====
section
/-! DEFINITION. GaloisFieldArithmetic: MULX and GFMUL (40_gf128_multiplier.md), and the unit operation GFMUL. -/

namespace Sys2Proof.Machine

open Sys2Proof

/-- MULX: multiplication by x (40_gf128_multiplier.md R83). -/
def mulx (v : Block) : Block := (v >>> 1) ^^^ (if v.getLsbD 0 then rConst else 0#128)

/-- The last `n` iterations of the reference form, from accumulator `z` and shifted operand `v`: the bits
`b{128 - n}` to `b{127}`, which are the integer bits `n - 1` down to 0 (40_gf128_multiplier.md R84). -/
def gfmulLoop (b : Block) : (n : Nat) → (z v : Block) → Block
  | 0, z, _ => z
  | n + 1, z, v => gfmulLoop b n (if b.getLsbD n then z ^^^ v else z) (mulx v)

/-- GFMUL: the field product in the reference form (40_gf128_multiplier.md R82, R84). -/
def gfmul (a b : Block) : Block := gfmulLoop b 128 0#128 a

/-- GFMUL by itself: the product at the unit's output; no state of the spec is written (40_gf128_multiplier.md R82,
R87; assumption log 8). -/
def execGfmul (a b : Block) (s : State) : Host.Outcome State Fault Refusal :=
  .next { s with unitOut := gfmul a b }

end Sys2Proof.Machine
end

