-- ==== Sys2Proof/Machine/Keystream.lean ====
section
/-! DEFINITION. CounterModeKeystream and the derivation of H and J0 (41_counter_keystream.md). Each effect takes the
oracle as its argument `E`; the meaning of the instruction is the effect under `Config.E`. -/

namespace Sys2Proof.Machine

open Sys2Proof

/-- ABSORB: `(s ^ x) · h` (42_ghash_accumulator.md R121). -/
def absorb (s h x : Block) : Block := gfmul (s ^^^ x) h

/-- INC32: the low 32 bits incremented modulo 2^32, the high 96 kept (41_counter_keystream.md R100). -/
def inc32 (v : Block) : Block := v.extractLsb' 32 96 ++ (v.extractLsb' 0 32 + 1#32)

/-- ECALL: one request to the oracle under KEY (41_counter_keystream.md R101). -/
def ecall (E : Block → Block → Block) (s : State) (b : Block) : Block := E s.key b

/-- DERIVE_H (41_counter_keystream.md R103). -/
def deriveH (E : Block → Block → Block) (s : State) : State :=
  if s.hValid then s else { s with h := ecall E s 0#128, hValid := true }

/-- J0_96: the 12-byte nonce, then CTR0 (41_counter_keystream.md R104). -/
def j096 (s : State) : State :=
  { s with j0 := (blockOfBytes (s.memRead .nonce 0 canonNonceBytes)).extractLsb' 32 96 ++ ctr0 }

/-- NGH_INIT (41_counter_keystream.md R105). -/
def nghInit (s : State) : State := { s with sReg := 0#128 }

/-- NGH_ABSORB of nonce block IDX (41_counter_keystream.md R106). -/
def nghAbsorb (s : State) : State :=
  { s with sReg := absorb s.sReg s.h (s.padBlk .nonce s.nlen.toNat s.idx.toNat) }

/-- NGH_LEN (41_counter_keystream.md R107). -/
def nghLen (s : State) : State := { s with sReg := absorb s.sReg s.h (nonceLenBlk s.nlen.toNat) }

/-- J0_TAKE (41_counter_keystream.md R108). -/
def j0Take (s : State) : State := { s with j0 := s.sReg, sReg := 0#128 }

/-- CTR_INIT (41_counter_keystream.md R109). -/
def ctrInit (s : State) : State := { s with cb := s.j0 }

/-- KS_BLOCK: the counter is incremented before the request (41_counter_keystream.md R110). -/
def ksBlock (E : Block → Block → Block) (s : State) : State :=
  { s with cb := inc32 s.cb, ks := ecall E s (inc32 s.cb) }

/-- XOR_TEXT of text block IDX: `m` bytes of DIN with the first `m` bytes of KS, to DOUT (41_counter_keystream.md
R111). -/
def xorText (s : State) : State :=
  s.memWriteDout (16 * s.idx.toNat)
    (List.zipWith (· ^^^ ·) (s.memRead .din (16 * s.idx.toNat) (blockBytes s.tlen.toNat s.idx.toNat))
      (bytesOfBlock s.ks))

/-! ## The instructions -/

/-- INC32 by itself (41_counter_keystream.md R100; assumption log 8). -/
def execInc32 (v : Block) (s : State) : Host.Outcome State Fault Refusal :=
  .next { s with unitOut := inc32 v }

/-- ECALL by itself: the oracle's answer under KEY (41_counter_keystream.md R101; assumption log 8). -/
def execEcall (b : Block) (s : State) : Host.Outcome State Fault Refusal :=
  .next { s with unitOut := ecall Config.E s b }

/-- DERIVE_H (41_counter_keystream.md R103). -/
def execDeriveH (s : State) : Host.Outcome State Fault Refusal := .next (deriveH Config.E s)

/-- J0_96 (41_counter_keystream.md R104). -/
def execJ096 (s : State) : Host.Outcome State Fault Refusal := .next (j096 s)

/-- NGH_INIT (41_counter_keystream.md R105). -/
def execNghInit (s : State) : Host.Outcome State Fault Refusal := .next (nghInit s)

/-- NGH_ABSORB (41_counter_keystream.md R106). -/
def execNghAbsorb (s : State) : Host.Outcome State Fault Refusal := .next (nghAbsorb s)

/-- NGH_LEN (41_counter_keystream.md R107). -/
def execNghLen (s : State) : Host.Outcome State Fault Refusal := .next (nghLen s)

/-- J0_TAKE (41_counter_keystream.md R108). -/
def execJ0Take (s : State) : Host.Outcome State Fault Refusal := .next (j0Take s)

/-- CTR_INIT (41_counter_keystream.md R109). -/
def execCtrInit (s : State) : Host.Outcome State Fault Refusal := .next (ctrInit s)

/-- KS_BLOCK (41_counter_keystream.md R110). -/
def execKsBlock (s : State) : Host.Outcome State Fault Refusal := .next (ksBlock Config.E s)

/-- XOR_TEXT (41_counter_keystream.md R111). -/
def execXorText (s : State) : Host.Outcome State Fault Refusal := .next (xorText s)

end Sys2Proof.Machine
end

