-- ==== Sys2Proof/Machine/Ghash.lean ====
section
/-! DEFINITION. GHashAccumulator: the micro-operations of the main hash (42_ghash_accumulator.md). -/

namespace Sys2Proof.Machine

open Sys2Proof

/-- GH_INIT (42_ghash_accumulator.md R122). -/
def ghInit (s : State) : State := { s with sReg := 0#128, state := .keystreamApplied }

/-- GH_AAD of AAD block IDX (42_ghash_accumulator.md R123). -/
def ghAad (s : State) : State :=
  { s with sReg := absorb s.sReg s.h (s.padBlk .aad s.alen.toNat s.idx.toNat) }

/-- GH_CT of ciphertext block IDX (42_ghash_accumulator.md R124). -/
def ghCt (s : State) : State :=
  { s with sReg := absorb s.sReg s.h (s.padBlk s.ctSpace s.tlen.toNat s.idx.toNat) }

/-- GH_LEN (42_ghash_accumulator.md R125). -/
def ghLen (s : State) : State := { s with sReg := absorb s.sReg s.h (lenBlk s.alen.toNat s.tlen.toNat) }

/-! ## The instructions -/

/-- GH_INIT (42_ghash_accumulator.md R122). -/
def execGhInit (s : State) : Host.Outcome State Fault Refusal := .next (ghInit s)

/-- GH_AAD (42_ghash_accumulator.md R123). -/
def execGhAad (s : State) : Host.Outcome State Fault Refusal := .next (ghAad s)

/-- GH_CT (42_ghash_accumulator.md R124). -/
def execGhCt (s : State) : Host.Outcome State Fault Refusal := .next (ghCt s)

/-- GH_LEN (42_ghash_accumulator.md R125). -/
def execGhLen (s : State) : Host.Outcome State Fault Refusal := .next (ghLen s)

end Sys2Proof.Machine
end

