-- ==== Sys2Proof/Machine/TagEngine.lean ====
section
/-! DEFINITION. TagEngine: tag derivation, comparison, release, zeroization and the end of a command (43_tag_engine.md). -/

namespace Sys2Proof.Machine

open Sys2Proof

/-- MASK_J0 (43_tag_engine.md R140). -/
def maskJ0 (E : Block → Block → Block) (s : State) : State := { s with ej0 := ecall E s s.j0 }

/-- TAG_FORM (43_tag_engine.md R141). -/
def tagForm (s : State) : State := { s with tReg := s.sReg ^^^ s.ej0, state := .tagComputed }

/-- TAG_EMIT (43_tag_engine.md R142). -/
def tagEmit (s : State) : State := { s with tagout := trunc s.tReg s.tagBytes, state := .sealed }

/-- TAG_CMP (43_tag_engine.md R143). -/
def tagCmp (s : State) : State := { s with diff := tagDiff s.tReg s.tagin s.tagBytes }

/-- RELEASE (43_tag_engine.md R144). -/
def release (s : State) : State := { s with state := .opened }

/-- ZEROIZE: the whole of DOUT cleared, Rejected, AuthenticationFailure taken (43_tag_engine.md R145, 60_exceptions.md
R215). -/
def zeroize (s : State) : State :=
  State.takeException { s.clearDout with state := .rejected } .authFailure .none

/-- CLEANUP (43_tag_engine.md R146). -/
def cleanup (s : State) : State := s.endCommand

/-! ## The instructions -/

/-- MASK_J0 (43_tag_engine.md R140). -/
def execMaskJ0 (s : State) : Host.Outcome State Fault Refusal := .next (maskJ0 Config.E s)

/-- TAG_FORM (43_tag_engine.md R141). -/
def execTagForm (s : State) : Host.Outcome State Fault Refusal := .next (tagForm s)

/-- TAG_EMIT (43_tag_engine.md R142). -/
def execTagEmit (s : State) : Host.Outcome State Fault Refusal := .next (tagEmit s)

/-- TAG_CMP (43_tag_engine.md R143). -/
def execTagCmp (s : State) : Host.Outcome State Fault Refusal := .next (tagCmp s)

/-- RELEASE (43_tag_engine.md R144). -/
def execRelease (s : State) : Host.Outcome State Fault Refusal := .next (release s)

/-- ZEROIZE (43_tag_engine.md R145). -/
def execZeroize (s : State) : Host.Outcome State Fault Refusal := .next (zeroize s)

/-- CLEANUP (43_tag_engine.md R146). -/
def execCleanup (s : State) : Host.Outcome State Fault Refusal := .next (cleanup s)

end Sys2Proof.Machine
end

