-- ==== Sys2Proof/Machine/Sequencer.lean ====
section
/-! DEFINITION. The sequencer: what a micro-operation does, the successor function (44_aead_orchestrator.md R171), one
sequencer step, and a command run to its end. All take the oracle as an argument. -/

namespace Sys2Proof.Machine

open Sys2Proof

/-- The effect of the micro-operation PHASE names, on the datapath, the flags and the buffers. -/
def uopEffect (E : Block → Block → Block) (u : Uop) (s : State) : State :=
  match u with
  | .deriveH => deriveH E s
  | .j096 => j096 s
  | .nghInit => nghInit s
  | .nghAbsorb => nghAbsorb s
  | .nghLen => nghLen s
  | .j0Take => j0Take s
  | .ctrInit => ctrInit s
  | .ksBlock => ksBlock E s
  | .xorText => xorText s
  | .ghInit => ghInit s
  | .ghAad => ghAad s
  | .ghCt => ghCt s
  | .ghLen => ghLen s
  | .maskJ0 => maskJ0 E s
  | .tagForm => tagForm s
  | .tagEmit => tagEmit s
  | .tagCmp => tagCmp s
  | .release => release s
  | .zeroize => zeroize s
  | .cleanup => cleanup s

/-- GH_CT(0) where there is text, else GH_LEN: the tail shared by GH_INIT and GH_AAD (44_aead_orchestrator.md R171). -/
def State.afterAad (s : State) : Uop × BitVec 64 :=
  if 0 < s.textBlocks then (.ghCt, 0#64) else (.ghLen, 0#64)

/-- The successor function: the micro-operation and index after executing `u` at index `i`, in the state `u` leaves;
none after CLEANUP (44_aead_orchestrator.md R171). -/
def State.successor (s : State) (u : Uop) (i : BitVec 64) : Option (Uop × BitVec 64) :=
  match u with
  | .deriveH => if s.nlen.toNat = canonNonceBytes then some (.j096, 0#64) else some (.nghInit, 0#64)
  | .j096 => some (.ctrInit, 0#64)
  | .nghInit => some (.nghAbsorb, 0#64)
  | .nghAbsorb => if i.toNat + 1 < s.nonceBlocks then some (.nghAbsorb, i + 1#64) else some (.nghLen, 0#64)
  | .nghLen => some (.j0Take, 0#64)
  | .j0Take => some (.ctrInit, 0#64)
  | .ctrInit => if 0 < s.textBlocks then some (.ksBlock, 0#64) else some (.ghInit, 0#64)
  | .ksBlock => some (.xorText, i)
  | .xorText => if i.toNat + 1 < s.textBlocks then some (.ksBlock, i + 1#64) else some (.ghInit, 0#64)
  | .ghInit => if 0 < s.aadBlocks then some (.ghAad, 0#64) else some s.afterAad
  | .ghAad => if i.toNat + 1 < s.aadBlocks then some (.ghAad, i + 1#64) else some s.afterAad
  | .ghCt => if i.toNat + 1 < s.textBlocks then some (.ghCt, i + 1#64) else some (.ghLen, 0#64)
  | .ghLen => some (.maskJ0, 0#64)
  | .maskJ0 => some (.tagForm, 0#64)
  | .tagForm => if cmdOp s.cmd = opSeal then some (.tagEmit, 0#64) else some (.tagCmp, 0#64)
  | .tagEmit => some (.cleanup, 0#64)
  | .tagCmp => if s.diff = 0#8 then some (.release, 0#64) else some (.zeroize, 0#64)
  | .release => some (.cleanup, 0#64)
  | .zeroize => some (.cleanup, 0#64)
  | .cleanup => none

/-- The sequencer position after executing `u` at index `i` (10_state.md R24). -/
def State.advance (s : State) (u : Uop) (i : BitVec 64) : State :=
  match s.successor u i with
  | some next => s.setSeq next.1 next.2
  | none => s

/-- What `step` adds around a sequenced micro-operation: from the outcome of the instruction that PHASE named in `s`,
the successor position. -/
def advanceFrom (s : State) : Host.Outcome State Fault Refusal → Host.Outcome State Fault Refusal
  | .next t =>
    match Uop.ofCode s.phase with
    | some u => .next (t.advance u s.idx)
    | none => .next t
  | .fault f => .fault f
  | .refused r => .refused r

/-- One step of the sequencer: the micro-operation PHASE names, then the successor; nothing where PHASE names none. -/
def seqStep (E : Block → Block → Block) (s : State) : State :=
  match Uop.ofCode s.phase with
  | some u => (uopEffect E u s).advance u s.idx
  | none => s

/-- At most `n` steps of the sequencer, ending when RUN is 0. -/
def runSeq (E : Block → Block → Block) : (n : Nat) → State → State
  | 0, s => s
  | n + 1, s => if s.run then runSeq E n (seqStep E s) else s

/-- `J`: the micro-operations that build J0 (44_aead_orchestrator.md R172). -/
def State.j0Steps (s : State) : Nat :=
  if s.nlen.toNat = canonNonceBytes then 1 else s.nonceBlocks + 3

/-- The micro-operations of a command after VALIDATE: 3n + na + J + 8 for SEAL, + 9 for OPEN (44_aead_orchestrator.md
R172). -/
def State.commandSteps (s : State) : Nat :=
  3 * s.textBlocks + s.aadBlocks + s.j0Steps + (if cmdOp s.cmd = opSeal then 8 else 9)

end Sys2Proof.Machine
end

