-- ==== Sys2Proof/Machine/Orchestrator.lean ====
section
/-! DEFINITION. AeadOrchestrator: VALIDATE (44_aead_orchestrator.md R162), the launch (45_host_access.md R196) and the
commands SEAL and OPEN (44_aead_orchestrator.md R160, R161). -/

namespace Sys2Proof.Machine

open Sys2Proof

/-- VALIDATE: nothing on success; InvalidInputError with the first failing check's cause otherwise
(44_aead_orchestrator.md R162, 60_exceptions.md R214). -/
def validate (s : State) : State :=
  match s.invalidCause with
  | some c => s.takeException .invalidInput c
  | none => s

/-- The launch of a command word while RUN = 0 (45_host_access.md R196). -/
def launch (w : BitVec 32) (s : State) : State :=
  match (s.beginLaunch w).invalidCause with
  | some c => (s.beginLaunch w).takeException .invalidInput c
  | none => { (s.beginLaunch w).setSeq .deriveH 0#64 with run := true }

/-- A whole command: the launch, then every micro-operation to CLEANUP, in the reference order
(44_aead_orchestrator.md R160, R161, R171; the big step of 45_host_access.md R190). A refused launch leaves RUN = 0 and
nothing runs. -/
def command (E : Block → Block → Block) (w : BitVec 32) (s : State) : State :=
  runSeq E (launch w s).commandSteps (launch w s)

/-! ## The instructions -/

/-- SEAL (44_aead_orchestrator.md R160); held while RUN = 1 (45_host_access.md R190). -/
def execSeal (tagbits klen : Byte) (s : State) : Host.Outcome State Fault Refusal :=
  .next (s.hostOp (.cmd (cmdWord opSeal tagbits klen))
    (command Config.E (cmdWord opSeal tagbits klen) s))

/-- OPEN (44_aead_orchestrator.md R161); held while RUN = 1 (45_host_access.md R190). -/
def execOpen (tagbits klen : Byte) (s : State) : Host.Outcome State Fault Refusal :=
  .next (s.hostOp (.cmd (cmdWord opOpen tagbits klen))
    (command Config.E (cmdWord opOpen tagbits klen) s))

/-- VALIDATE by itself, on the command word in CMD (44_aead_orchestrator.md R162; assumption log 8). -/
def execValidate (s : State) : Host.Outcome State Fault Refusal :=
  .next (validate s)

end Sys2Proof.Machine
end

