-- ==== Sys2Proof/Machine/HostAccess.lean ====
section
/-! DEFINITION. The host operations: register reads and writes, the launch, buffer bytes (45_host_access.md), and the
reset event (70_reset_and_hazards.md R240). While RUN = 1 every one but reset is held (45_host_access.md R190). -/

namespace Sys2Proof.Machine

open Sys2Proof

/-- What a host read of a register number returns, zero-extended (45_host_access.md R191, R193; assumption log 9). -/
def State.regRead (s : State) (reg : Nat) : Block :=
  match reg with
  | 0 => s.cmd.setWidth 128
  | 1 => s.status.setWidth 128
  | 2 => 0#128
  | 3 => s.nlen.setWidth 128
  | 4 => s.alen.setWidth 128
  | 5 => s.tlen.setWidth 128
  | 6 => s.tagin
  | 7 => s.tagout
  | _ => 0#128

/-- The gated read of DOUT (45_host_access.md R199). -/
def State.gatedDout (s : State) (off : Nat) : Byte :=
  if (s.state = .sealed ∨ s.state = .opened) ∧ off < s.tlen.toNat then s.doutByte off else 0#8

/-- A host write of KEY drops the cached H (45_host_access.md R192). -/
def State.writeKey (s : State) (v : Block) : State :=
  { s with key := v, keyValid := true, h := 0#128, hValid := false }

/-! ## The instructions -/

/-- RD (45_host_access.md R191). -/
def execRd (reg : Nat) (s : State) : Host.Outcome State Fault Refusal :=
  .next (s.hostOp (.rd reg) (s.answer (s.regRead reg)))

/-- RD KEY returns zero whatever KEY holds (45_host_access.md R193). -/
def execRdKey (s : State) : Host.Outcome State Fault Refusal :=
  .next (s.hostOp (.rd 2) (s.answer 0#128))

/-- WR KEY (45_host_access.md R192). -/
def execWrKey (v : Block) (s : State) : Host.Outcome State Fault Refusal :=
  .next (s.hostOp (.wr 2 v) (s.writeKey v))

/-- WR NLEN (45_host_access.md R194). -/
def execWrNlen (v : BitVec 64) (s : State) : Host.Outcome State Fault Refusal :=
  .next (s.hostOp (.wr 3 (v.setWidth 128)) { s with nlen := v })

/-- WR ALEN (45_host_access.md R194). -/
def execWrAlen (v : BitVec 64) (s : State) : Host.Outcome State Fault Refusal :=
  .next (s.hostOp (.wr 4 (v.setWidth 128)) { s with alen := v })

/-- WR TLEN (45_host_access.md R194). -/
def execWrTlen (v : BitVec 64) (s : State) : Host.Outcome State Fault Refusal :=
  .next (s.hostOp (.wr 5 (v.setWidth 128)) { s with tlen := v })

/-- WR TAGIN (45_host_access.md R194). -/
def execWrTagin (v : Block) (s : State) : Host.Outcome State Fault Refusal :=
  .next (s.hostOp (.wr 6 v) { s with tagin := v })

/-- WR STATUS is ignored (45_host_access.md R195). -/
def execWrStatus (v : BitVec 32) (s : State) : Host.Outcome State Fault Refusal :=
  .next (s.hostOp (.wr 1 (v.setWidth 128)) s)

/-- WR TAGOUT and a write to a number 8 or above are ignored (45_host_access.md R195). -/
def execWrTagout (reg : Nat) (v : Block) (s : State) : Host.Outcome State Fault Refusal :=
  .next (s.hostOp (.wr reg v) s)

/-- WR CMD, the launch; the sequencer runs the command in the steps that follow (45_host_access.md R196). -/
def execWrCmd (w : BitVec 32) (s : State) : Host.Outcome State Fault Refusal :=
  .next (s.hostOp (.wr 0 (w.setWidth 128)) (launch w s))

/-- WRB (45_host_access.md R197); of DOUT it is ignored (R198). -/
def execWrb (sp : Space) (off : BitVec 64) (b : Byte) (s : State) : Host.Outcome State Fault Refusal :=
  .next (s.hostOp (.wrb sp off b) (s.hostWriteByte sp off.toNat b))

/-- RDB of an input buffer, ungated (45_host_access.md R198). -/
def execRdbIn (sp : InSpace) (off : BitVec 64) (s : State) : Host.Outcome State Fault Refusal :=
  .next (s.hostOp (.rdb sp.toSpace off) (s.answer ((s.inByte sp off.toNat).setWidth 128)))

/-- RDB DOUT, gated (45_host_access.md R199). -/
def execRdbDout (off : BitVec 64) (s : State) : Host.Outcome State Fault Refusal :=
  .next (s.hostOp (.rdb .dout off) (s.answer ((s.gatedDout off.toNat).setWidth 128)))

/-- RESET, at any time (70_reset_and_hazards.md R240). -/
def execReset (s : State) : Host.Outcome State Fault Refusal :=
  .next s.resetEvent

end Sys2Proof.Machine
end

