-- ==== Sys2Proof/Machine/Reference.lean ====
section
/-! DEFINITION. The functions of whole messages that the spec defines beside the machine: inc32(J0, k)
(41_counter_keystream.md R100), the keystream (R102), GHASH (42_ghash_accumulator.md R126), and what SEAL and OPEN
compute (44_aead_orchestrator.md R173, R174). No instruction calls them: statements compare the machine with them. -/

namespace Sys2Proof.Machine

open Sys2Proof

/-- `inc32(j, k)`: `k` applications of INC32 at once (41_counter_keystream.md R100). -/
def inc32By (j : Block) (k : Nat) : Block :=
  j.extractLsb' 32 96 ++ BitVec.ofNat 32 ((j.extractLsb' 0 32).toNat + k)

/-- Byte `off` of the keystream: byte `off mod 16` of KSB(off div 16) (41_counter_keystream.md R102). -/
def keystreamByte (E : Block → Block → Block) (key j0 : Block) (off : Nat) : Byte :=
  byteAt (E key (inc32By j0 (off / 16 + 1))) (off % 16)

/-- The padded blocks of `len` bytes (42_ghash_accumulator.md R126). -/
def paddedBlocks (bytes : Nat → Byte) (len : Nat) : List Block :=
  (List.range (nblk len)).map fun i =>
    blockOfBytes ((List.range (blockBytes len i)).map fun k => bytes (16 * i + k))

/-- Absorbing blocks in order (42_ghash_accumulator.md R126). -/
def absorbAll (h : Block) (y : Block) (xs : List Block) : Block :=
  xs.foldl (fun y x => absorb y h x) y

/-- GHASH(h, a, c): the padded blocks of `a`, those of `c`, and the length block, from zero (42_ghash_accumulator.md
R126). -/
def ghash (h : Block) (a : Nat → Byte) (la : Nat) (c : Nat → Byte) (lc : Nat) : Block :=
  absorbAll h 0#128 (paddedBlocks a la ++ paddedBlocks c lc ++ [lenBlk la lc])

/-- J0 of a nonce: the nonce and CTR0 where it has 12 bytes, its hash otherwise (44_aead_orchestrator.md R173). -/
def preCounter (h : Block) (nonce : Nat → Byte) (ln : Nat) : Block :=
  if ln = canonNonceBytes then
    (blockOfBytes ((List.range canonNonceBytes).map nonce)).extractLsb' 32 96 ++ ctr0
  else ghash h (fun _ => 0#8) 0 nonce ln

/-- The hash subkey of the state's key: `E(KEY, 0^128)`. -/
def State.subkey (E : Block → Block → Block) (s : State) : Block := E s.key 0#128

/-- The pre-counter block of the state's key and nonce. -/
def State.preCounterBlock (E : Block → Block → Block) (s : State) : Block :=
  preCounter (s.subkey E) (s.inByte .nonce) s.nlen.toNat

/-- Byte `off` of the text in DIN under the keystream of the state's key and nonce: ciphertext for SEAL, plaintext for
OPEN (44_aead_orchestrator.md R173, R174). -/
def State.outTextByte (E : Block → Block → Block) (s : State) (off : Nat) : Byte :=
  s.inByte .din off ^^^ keystreamByte E s.key (s.preCounterBlock E) off

/-- The full tag value over the state's AAD and a ciphertext of TLEN bytes (44_aead_orchestrator.md R173, R174). -/
def State.fullTag (E : Block → Block → Block) (s : State) (ct : Nat → Byte) : Block :=
  ghash (s.subkey E) (s.inByte .aad) s.alen.toNat ct s.tlen.toNat ^^^ E s.key (s.preCounterBlock E)

/-- The first `t` bytes of two Blocks are equal. -/
def tagsAgree (x y : Block) (t : Nat) : Prop := ∀ k, k < t → byteAt x k = byteAt y k

end Sys2Proof.Machine
end

