-- ==== Sys2Proof/Machine/HostProgram.lean ====
section
/-! DEFINITION. The notation for host programs and the expansions of `seal` and `open` (30_encoding.md R68, R69): a
program is the list of the operations it issues. -/

namespace Sys2Proof.Machine

open Sys2Proof

/-- `WRB <space>, <off>, <hex bytes>`: writes of consecutive bytes (30_encoding.md R68). DESIGN CHOICE: a line that runs
past offset 2^64 - 1, of which the spec says nothing, goes on at offset 0 (assumption log 23). -/
def wrbLine (sp : Space) (off : Nat) : List Byte → List Request
  | [] => []
  | b :: rest => .wrb sp (BitVec.ofNat 64 off) b :: wrbLine sp (off + 1) rest

/-- `RDB <space>, <off>, <count>`: reads of consecutive bytes (30_encoding.md R68). DESIGN CHOICE: a line that runs past
offset 2^64 - 1, of which the spec says nothing, goes on at offset 0 (assumption log 23). -/
def rdbLine (sp : Space) (off count : Nat) : List Request :=
  (List.range count).map fun k => .rdb sp (BitVec.ofNat 64 (off + k))

/-- `WR <reg>, <value>` of a length. -/
def wrLength (reg len : Nat) : Request := .wr reg (BitVec.ofNat 128 len)

/-- `SEAL tag=<bits> klen=<bytes>` and `OPEN tag=<bits> klen=<bytes>`: a write of CMD, each number passed as 255 where it
is greater (30_encoding.md R68, R69). -/
def commandLine (op : Byte) (tagBits klen : Nat) : Request :=
  .wr 0 ((cmdWord op (BitVec.ofNat 8 (min tagBits 255)) (BitVec.ofNat 8 (min klen 255))).setWidth 128)

/-- `WR KEY`, left out for a key that is not 16 bytes long (30_encoding.md R69). -/
def keyLine (key : List Byte) : List Request :=
  if key.length = keyBytes then [.wr 2 (blockOfBytes key)] else []

/-- `WR TAGIN`, left out for a tag longer than 16 bytes (30_encoding.md R69). -/
def taginLine (tag : List Byte) : List Request :=
  if tag.length ≤ 16 then [.wr 6 (blockOfBytes tag)] else []

/-- The writes shared by `seal` and `open`: nonce, associated data and text with their lengths (30_encoding.md R69). -/
def inputLines (nonce aad text : List Byte) : List Request :=
  wrbLine .nonce 0 nonce ++ [wrLength 3 nonce.length] ++ wrbLine .aad 0 aad ++ [wrLength 4 aad.length]
    ++ wrbLine .din 0 text ++ [wrLength 5 text.length]

/-- `seal(key, nonce, plaintext, aad, tag_bits)` up to its `RD STATUS` (30_encoding.md R69). -/
def sealProgram (key nonce plaintext aad : List Byte) (tagBits : Nat) : List Request :=
  keyLine key ++ inputLines nonce aad plaintext ++ [commandLine opSeal tagBits key.length, .rd 1]

/-- What `seal` reads once STATUS showed ERR = 0 (30_encoding.md R69). -/
def sealReadback (len : Nat) : List Request := rdbLine .dout 0 len ++ [.rd 7]

/-- `open(key, nonce, ciphertext, tag, aad)` up to its `RD STATUS` (30_encoding.md R69). -/
def openProgram (key nonce ciphertext tag aad : List Byte) : List Request :=
  keyLine key ++ inputLines nonce aad ciphertext ++ taginLine tag
    ++ [commandLine opOpen (8 * tag.length) key.length, .rd 1]

/-- What `open` reads once STATUS showed ERR = 0 (30_encoding.md R69). -/
def openReadback (len : Nat) : List Request := rdbLine .dout 0 len

end Sys2Proof.Machine
end

