-- ==== Sys2Proof/Machine/Fetch.lean ====
section
/-! DEFINITION. What the next step runs: a micro-operation named by PHASE while RUN = 1, the oldest pending operation
while RUN = 0, or a reset that has arrived (45_host_access.md R190, 70_reset_and_hazards.md R240). -/

namespace Sys2Proof.Machine

open Sys2Proof

/-- What a step finds to do. -/
inductive Fetched where
  /-- RUN = 0 and nothing is pending: the core waits (10_state.md R33: "after reset GCMCORE waits for host writes"). -/
  | wait
  /-- RUN = 1: the micro-operation PHASE names, run in the state as it is. -/
  | sequenced (i : Instr)
  /-- An operation taken from the pending ones, and the state without it. -/
  | issued (i : Instr) (s : State)
  /-- RUN = 1 and PHASE names no micro-operation. -/
  | noPhase
  /-- The oldest pending request is no operation of the spec. -/
  | noOperation
deriving DecidableEq, Repr

/-- The operation an issued request asks for; none where it is no operation of the spec. A reserved command word is
launched, and VALIDATE refuses it like any other invalid input (30_encoding.md R67(a)). -/
def requestInstr (r : Request) : Option Instr :=
  match decode (.request r) with
  | .ok i => some i
  | .rejected (.reservedCommand w) => some (.wrCmd w)
  | .rejected _ => none

/-- What the next step runs. A reset is the one event a running command does not hold (70_reset_and_hazards.md R240). -/
def fetch (s : State) : Fetched :=
  if s.run then
    if s.resetArrived then .issued .reset s.takeReset
    else
      match decode (.phase s.phase) with
      | .ok i => .sequenced i
      | .rejected _ => .noPhase
  else
    match s.pending with
    | [] => .wait
    | r :: rest =>
      match requestInstr r with
      | some i => .issued i (s.withPending rest)
      | none => .noOperation

/-- The state in which the next step fetches the operation of a code: RUN and PHASE for a micro-operation, with no reset
among the operations issued; the oldest pending operation for the rest, with RUN = 0. -/
def State.withCode (s : State) (c : Code) : State :=
  match c with
  | .phase p => { s.withPending (s.pending.filter (· != .reset)) with run := true, phase := p }
  | .request r => { s.withPending (r :: s.pending) with run := false }

end Sys2Proof.Machine
end

