-- ==== Sys2Proof/Machine/Dispatch.lean ====
section
/-! DEFINITION. The dispatch: one arm per row of spec/opcode_table.json, each one call of that instruction's meaning. -/

namespace Sys2Proof.Machine

open Sys2Proof

def exec (i : Instr) (s : State) : Host.Outcome State Fault Refusal :=
  match i with
  | .sealCmd tagbits klen => Sys2Proof.Machine.execSeal tagbits klen s
  | .openCmd tagbits klen => Sys2Proof.Machine.execOpen tagbits klen s
  | .validate => Sys2Proof.Machine.execValidate s
  | .deriveH => Sys2Proof.Machine.execDeriveH s
  | .j096 => Sys2Proof.Machine.execJ096 s
  | .nghInit => Sys2Proof.Machine.execNghInit s
  | .nghAbsorb => Sys2Proof.Machine.execNghAbsorb s
  | .nghLen => Sys2Proof.Machine.execNghLen s
  | .j0Take => Sys2Proof.Machine.execJ0Take s
  | .ctrInit => Sys2Proof.Machine.execCtrInit s
  | .ksBlock => Sys2Proof.Machine.execKsBlock s
  | .xorText => Sys2Proof.Machine.execXorText s
  | .ghInit => Sys2Proof.Machine.execGhInit s
  | .ghAad => Sys2Proof.Machine.execGhAad s
  | .ghCt => Sys2Proof.Machine.execGhCt s
  | .ghLen => Sys2Proof.Machine.execGhLen s
  | .maskJ0 => Sys2Proof.Machine.execMaskJ0 s
  | .tagForm => Sys2Proof.Machine.execTagForm s
  | .tagEmit => Sys2Proof.Machine.execTagEmit s
  | .tagCmp => Sys2Proof.Machine.execTagCmp s
  | .release => Sys2Proof.Machine.execRelease s
  | .zeroize => Sys2Proof.Machine.execZeroize s
  | .cleanup => Sys2Proof.Machine.execCleanup s
  | .gfmul a b => Sys2Proof.Machine.execGfmul a b s
  | .inc32 v => Sys2Proof.Machine.execInc32 v s
  | .ecall b => Sys2Proof.Machine.execEcall b s
  | .rd reg => Sys2Proof.Machine.execRd reg s
  | .rdKey => Sys2Proof.Machine.execRdKey s
  | .wrKey v => Sys2Proof.Machine.execWrKey v s
  | .wrNlen v => Sys2Proof.Machine.execWrNlen v s
  | .wrAlen v => Sys2Proof.Machine.execWrAlen v s
  | .wrTlen v => Sys2Proof.Machine.execWrTlen v s
  | .wrTagin v => Sys2Proof.Machine.execWrTagin v s
  | .wrStatus v => Sys2Proof.Machine.execWrStatus v s
  | .wrTagout reg v => Sys2Proof.Machine.execWrTagout reg v s
  | .wrCmd w => Sys2Proof.Machine.execWrCmd w s
  | .wrb sp off b => Sys2Proof.Machine.execWrb sp off b s
  | .rdbIn sp off => Sys2Proof.Machine.execRdbIn sp off s
  | .rdbDout off => Sys2Proof.Machine.execRdbDout off s
  | .reset => Sys2Proof.Machine.execReset s

end Sys2Proof.Machine
end

