-- ==== Sys2Proof/Machine/Step.lean ====
section
/-! DEFINITION. The step function (45_host_access.md R190) and the state in which the next step runs a given row of the
opcode table. -/

namespace Sys2Proof.Machine

open Sys2Proof

/-- One step: a micro-operation and the successor position while RUN = 1; one issued operation while RUN = 0; a reset
at any time (45_host_access.md R190, 44_aead_orchestrator.md R171, 70_reset_and_hazards.md R240). -/
def step (s : State) : Host.Outcome State Fault Refusal :=
  match fetch s with
  | .wait => .next s
  | .sequenced i => advanceFrom s (exec i s)
  | .issued i t => exec i t
  | .noPhase => .fault .phaseOutsideRange
  | .noOperation => .refused .malformedRequest

/-- The state with a table row's instruction where `step` fetches next (assumption log 12). -/
def State.withFetchWord (s : State) (nbits w : Nat) : State :=
  s.withCode (tableCode nbits w)

end Sys2Proof.Machine
end

