-- ==== Sys2Proof/Safety.lean ====
section
/-! DEFINITION. What every state of a run satisfies (10_state.md R24, R25, R31, R32; 30_encoding.md R67), and what the
host can observe (10_state.md R34). -/

namespace Sys2Proof

/-- A pending operation of the host or a reset: what can be issued to the block from outside (30_encoding.md R68). -/
def Request.isHost : Request → Bool
  | .invoke _ _ _ => false
  | .cmd _ => true
  | .rd _ => true
  | .wr _ _ => true
  | .wrb _ _ _ => true
  | .rdb _ _ => true
  | .reset => true

end Sys2Proof

namespace Sys2Proof.Machine

open Sys2Proof

/-- The four buffers are in canonical form. -/
def State.buffersCanonical (s : State) : Prop :=
  Memory.wf (bufferDefault .nonce) s.nonce = true ∧ Memory.wf (bufferDefault .aad) s.aad = true ∧
    Memory.wf (bufferDefault .din) s.din = true ∧ Memory.wf (bufferDefault .dout) s.dout = true

/-- The number of blocks an indexed micro-operation ranges over; 1 for the others, whose index is 0 (10_state.md R24). -/
def State.indexBound (s : State) : Uop → Nat
  | .nghAbsorb => s.nonceBlocks
  | .ksBlock => s.textBlocks
  | .xorText => s.textBlocks
  | .ghAad => s.aadBlocks
  | .ghCt => s.textBlocks
  | .deriveH => 1
  | .j096 => 1
  | .nghInit => 1
  | .nghLen => 1
  | .j0Take => 1
  | .ctrInit => 1
  | .ghInit => 1
  | .ghLen => 1
  | .maskJ0 => 1
  | .tagForm => 1
  | .tagEmit => 1
  | .tagCmp => 1
  | .release => 1
  | .zeroize => 1
  | .cleanup => 1

/-- The sequencer position is `(0, 0, 0)` while RUN = 0, and while RUN = 1 it is a micro-operation of 0x02 to 0x15 with
an index in range (10_state.md R24, 30_encoding.md R67(e)). -/
def State.sequencerInRange (s : State) : Prop :=
  if s.run then ∃ u, Uop.ofCode s.phase = some u ∧ s.idx.toNat < s.indexBound u
  else s.phase = 0#8 ∧ s.idx = 0#64

/-- Whenever RUN = 0 the temporaries are zero (10_state.md R31). -/
def State.temporariesClear (s : State) : Prop :=
  s.run = false →
    s.j0 = 0#128 ∧ s.cb = 0#128 ∧ s.ks = 0#128 ∧ s.sReg = 0#128 ∧ s.ej0 = 0#128 ∧ s.tReg = 0#128 ∧ s.diff = 0#8

/-- Whenever H_VALID = 1, `H = E(KEY, 0^128)` for the present KEY (10_state.md R32). -/
def State.subkeyCached (s : State) : Prop :=
  s.hValid = true → s.h = Config.E s.key 0#128

/-- Whenever STATE is Rejected, every byte of DOUT is zero (10_state.md R32). -/
def State.rejectedIsBlank (s : State) : Prop :=
  s.state = .rejected → ∀ off, s.doutByte off = 0#8

/-- While RUN = 0, DOUT is zero unless the last command succeeded (45_host_access.md R199); TAGOUT is zero unless a SEAL
did (10_state.md R21). -/
def State.resultsGated (s : State) : Prop :=
  (s.run = false → s.state ≠ .sealed → s.state ≠ .opened → ∀ off, s.doutByte off = 0#8) ∧
    (s.state ≠ .sealed → s.tagout = 0#128)

/-- CAUSE is NONE exactly when ERR is not InvalidInputError, and AuthenticationFailure goes with Rejected (10_state.md
R26, 30_encoding.md R65). -/
def State.exceptionFieldsAgree (s : State) : Prop :=
  (s.err = .invalidInput ↔ s.cause ≠ .none) ∧ (s.err = .authFailure → s.state = .rejected)

/-- A running command passed validation (10_state.md R24, 44_aead_orchestrator.md R162). -/
def State.runningIsValid (s : State) : Prop :=
  s.run = true → s.invalidCause = none

/-- MAX_NONCE_BYTES is at most its default, so that the bit length of an accepted nonce fits 64 bits and the greatest IDX
is below 2^57 (92_eei_decisions.md D10, 10_state.md R24); there is no least value (00_scope.md R5). -/
def State.parameterInRange (s : State) : Prop :=
  s.maxNonceBytes ≤ 2 ^ 61 - 1

/-- The values of STATE a micro-operation can find (44_aead_orchestrator.md R170, R171). -/
def statesAt : Uop → List StateCode
  | .deriveH => [.idle]
  | .j096 => [.idle]
  | .nghInit => [.idle]
  | .nghAbsorb => [.idle]
  | .nghLen => [.idle]
  | .j0Take => [.idle]
  | .ctrInit => [.idle]
  | .ksBlock => [.idle]
  | .xorText => [.idle]
  | .ghInit => [.idle]
  | .ghAad => [.keystreamApplied]
  | .ghCt => [.keystreamApplied]
  | .ghLen => [.keystreamApplied]
  | .maskJ0 => [.keystreamApplied]
  | .tagForm => [.keystreamApplied]
  | .tagEmit => [.tagComputed]
  | .tagCmp => [.tagComputed]
  | .release => [.tagComputed]
  | .zeroize => [.tagComputed]
  | .cleanup => [.sealed, .opened, .rejected]

/-- STATE while RUN = 0 is one the host can see (10_state.md R25); while RUN = 1 it is the one the sequencer position
calls for (44_aead_orchestrator.md R170). -/
def State.stateFitsPosition (s : State) : Prop :=
  if s.run then ∀ u, Uop.ofCode s.phase = some u → s.state ∈ statesAt u
  else s.state ∈ [StateCode.idle, .sealed, .opened, .rejected]

/-- From J0 on, the counter block is J0 advanced by the number of blocks requested, and the keystream block is the
oracle's answer to it (10_state.md R15, R16; 41_counter_keystream.md R110). -/
def State.counterFollowsJ0 (s : State) : Prop :=
  s.run = true →
    (s.phase = Uop.ksBlock.code → s.cb = inc32By s.j0 s.idx.toNat) ∧
      (s.phase = Uop.xorText.code → s.cb = inc32By s.j0 (s.idx.toNat + 1) ∧ s.ks = Config.E s.key s.cb)

/-- H is derived before any micro-operation but DERIVE_H runs (44_aead_orchestrator.md R171). -/
def State.subkeyReady (s : State) : Prop :=
  s.run = true → s.phase ≠ Uop.deriveH.code → s.hValid = true

/-- The invariant of every run from reset. -/
def State.Inv (s : State) : Prop :=
  s.buffersCanonical ∧ s.sequencerInRange ∧ s.temporariesClear ∧ s.subkeyCached ∧ s.rejectedIsBlank ∧
    s.resultsGated ∧ s.exceptionFieldsAgree ∧ s.runningIsValid ∧ s.stateFitsPosition ∧ s.counterFollowsJ0 ∧
    s.subkeyReady ∧ s.parameterInRange

/-- Two states the host cannot tell apart by what it can read: they differ at most in KEY and the internal registers
(10_state.md R34). -/
def State.sameToHost (s t : State) : Prop :=
  s.cmd = t.cmd ∧ s.status = t.status ∧ s.nlen = t.nlen ∧ s.alen = t.alen ∧ s.tlen = t.tlen ∧ s.tagin = t.tagin ∧
    s.tagout = t.tagout ∧ (∀ sp off, s.inByte sp off = t.inByte sp off) ∧ (∀ off, s.gatedDout off = t.gatedDout off)

end Sys2Proof.Machine
end

