-- ==== Sys2Proof/Certificates/Slice0/Obligations.lean ====
section
/-! DEFINITION. The statements for the provers. Rule numbers are those of spec/. -/

open Sys2Proof Sys2Proof.Machine

/-! ## The polynomials of 40_gf128_multiplier.md R80 and R88, which two statements compare the multiplier with -/

/-- The polynomial held in a Block: the coefficient of `x^i` is `V{i}`, integer bit `127 - i` (R80). -/
noncomputable def Sys2Proof.Machine.blockPoly (v : Block) : Polynomial (ZMod 2) :=
  ∑ i ∈ Finset.range 128, if v.getLsbD (127 - i) then Polynomial.X ^ i else 0

/-- The reduction polynomial `x^128 + x^7 + x^2 + x + 1` (R88). -/
noncomputable def Sys2Proof.Machine.fieldModulus : Polynomial (ZMod 2) :=
  Polynomial.X ^ 128 + Polynomial.X ^ 7 + Polynomial.X ^ 2 + Polynomial.X + 1

/-! ## Conditions on a command, written on the numbers of 30_encoding.md R60 and 44_aead_orchestrator.md R162 -/

/-- KEY, the lengths and the fields TAGBITS and KLEN pass every check of VALIDATE that SEAL and OPEN share (R162);
MAX_NONCE_BYTES is the field `maxNonceBytes`, any value (assumption log 5). -/
def Sys2Proof.Machine.State.acceptsCommand (s : State) (tagbits klen : Byte) : Prop :=
  klen.toNat = 16 ∧ s.keyValid = true ∧ 0 < s.nlen.toNat ∧ s.nlen.toNat ≤ s.maxNonceBytes ∧
    tagbits.toNat ∈ [96, 104, 112, 120, 128] ∧ s.tlen.toNat ≤ 2 ^ 36 - 32 ∧ s.alen.toNat ≤ 2 ^ 36 - 32

/-- The number of micro-operations R172 counts for the command in CMD. -/
def Sys2Proof.Machine.State.countedSteps (s : State) : Nat :=
  3 * ((s.tlen.toNat + 15) / 16) + (s.alen.toNat + 15) / 16
    + (if s.nlen.toNat = 12 then 1 else (s.nlen.toNat + 15) / 16 + 3) + (if s.cmd.toNat % 256 = 1 then 8 else 9)

/-! ## When a reset strikes -/

/-- The next step is a reset: one has arrived while RUN = 1, or it is the oldest operation while RUN = 0
(70_reset_and_hazards.md R240; assumption log 2). -/
def Sys2Proof.Machine.State.resetStrikes (s : State) : Prop :=
  (s.run = true ∧ Request.reset ∈ s.pending) ∨ (s.run = false ∧ ∃ rest, s.pending = .reset :: rest)

/-! ## Encoding -/

/-- Words written out from the spec decode to what the spec says they are (30_encoding.md R60, R62, R66, R67). That a unit
operation, here the code 0x20, can be asked for by itself is the model's choice: assumption log 8. -/
def Obligations.WordsOfTheSpecDecode : Prop :=
  decode (.request (.cmd 0x00108001#32)) = .ok (.sealCmd 0x80#8 0x10#8) ∧
    decode (.request (.cmd 0x00106002#32)) = .ok (.openCmd 0x60#8 0x10#8) ∧
    decode (.request (.cmd 0x01108001#32)) = .rejected (.reservedCommand 0x01108001#32) ∧
    decode (.request (.cmd 0x00108003#32)) = .rejected (.reservedCommand 0x00108003#32) ∧
    decode (.phase 0x02#8) = .ok .deriveH ∧ decode (.phase 0x0D#8) = .ok .ghCt ∧
    decode (.phase 0x15#8) = .ok .cleanup ∧ decode (.phase 0x16#8) = .rejected (.notAPhase 0x16#8) ∧
    decode (.request (.invoke 0x20#8 1#128 2#128)) = .ok (.gfmul 1#128 2#128) ∧
    decode (.request (.wr 5 19#128)) = .ok (.wrTlen 19#64) ∧ decode (.request (.rd 2)) = .ok .rdKey

/-- Decoding the code of any well-formed operation gives it back: no bit of an encoding is dropped. -/
def Obligations.DecodeInvertsEncode : Prop :=
  ∀ i : Instr, i.wellFormed = true → decode (encode i) = .ok i

/-- What decodes is well formed and is the code of what it decodes to: no two codes stand for one operation. -/
def Obligations.EncodeInvertsDecode : Prop :=
  ∀ (c : Code) (i : Instr), decode c = .ok i → i.wellFormed = true ∧ encode i = c

/-- Every one of the 2^32 command words is a SEAL, an OPEN, or is refused with CAUSE RESERVED_CMD, by OP and RSV alone
(30_encoding.md R60, R67(a), 60_exceptions.md R214). -/
def Obligations.EveryCommandWordSealsOpensOrIsRefused : Prop :=
  ∀ (w : BitVec 32) (s : State), s.run = false →
    (w.toNat / 2 ^ 24 = 0 → w.toNat % 256 = 1 →
      decode (.request (.cmd w)) =
        .ok (.sealCmd (BitVec.ofNat 8 (w.toNat / 2 ^ 8)) (BitVec.ofNat 8 (w.toNat / 2 ^ 16)))) ∧
    (w.toNat / 2 ^ 24 = 0 → w.toNat % 256 = 2 →
      decode (.request (.cmd w)) =
        .ok (.openCmd (BitVec.ofNat 8 (w.toNat / 2 ^ 8)) (BitVec.ofNat 8 (w.toNat / 2 ^ 16)))) ∧
    (w.toNat / 2 ^ 24 ≠ 0 ∨ (w.toNat % 256 ≠ 1 ∧ w.toNat % 256 ≠ 2) →
      decode (.request (.cmd w)) = .rejected (.reservedCommand w) ∧
        exec (.wrCmd w) s = .next { s with
          cmd := w, state := .idle, err := .invalidInput, cause := .reservedCmd, dout := [], tagout := 0#128 })

/-! ## The step -/

/-- A step runs the instruction that is decoded: the oldest pending operation while RUN = 0, in the state without it;
the micro-operation PHASE names while RUN = 1, followed by the successor position (45_host_access.md R190, 10_state.md
R24, 44_aead_orchestrator.md R171). A reserved command word is launched like any other (30_encoding.md R67(a)). With
RUN = 0 and nothing pending the core waits (10_state.md R33). Where the operations issued stand, and that such a step
leaves the state as it is, is the model's choice: assumption log 1. -/
def Obligations.StepRunsDecodedInstruction : Prop :=
  (∀ (s : State) (r : Request) (rest : List Request) (i : Instr), s.run = false → s.pending = r :: rest →
    decode (.request r) = .ok i → step s = exec i { s with pending := rest }) ∧
  (∀ (s : State) (w : BitVec 32) (rest : List Request), s.run = false → s.pending = .cmd w :: rest →
    decode (.request (.cmd w)) = .rejected (.reservedCommand w) →
      step s = exec (.wrCmd w) { s with pending := rest }) ∧
  (∀ (s : State) (i : Instr), s.run = true → Request.reset ∉ s.pending → decode (.phase s.phase) = .ok i →
    ∃ (u : Uop) (t : State), Uop.ofCode s.phase = some u ∧ u.toInstr = i ∧ exec i s = .next t ∧
      step s = .next (t.advance u s.idx)) ∧
  (∀ s : State, s.run = false → s.pending = [] → step s = .next s)

/-- While RUN = 1 a host operation is held, unchanged, behind those issued before it, and a step of the running command
performs none of them and writes nothing the host owns (45_host_access.md R190, 20_memory.md R53). -/
def Obligations.HostIsHeldWhileRunning : Prop :=
  (∀ (s : State) (i : Instr) (r : Request), s.run = true → encode i = .request r → r.isHost = true → r ≠ .reset →
    exec i s = .next { s with pending := s.pending ++ [r] }) ∧
  (∀ s t : State, s.run = true → Request.reset ∉ s.pending → step s = .next t →
    t.pending = s.pending ∧ t.rdLog = s.rdLog ∧ t.key = s.key ∧ t.keyValid = s.keyValid ∧ t.tagin = s.tagin ∧
      t.cmd = s.cmd ∧ t.nlen = s.nlen ∧ t.alen = s.alen ∧ t.tlen = s.tlen ∧ t.nonce = s.nonce ∧ t.aad = s.aad ∧
      t.din = s.din ∧ t.epoch = s.epoch)

/-- The successor function: where the sequencer stands after a launch and after each micro-operation
(44_aead_orchestrator.md R171). -/
def Obligations.SuccessorFollowsTheTable : Prop :=
  (∀ (w : BitVec 32) (s t : State), s.run = false → exec (.wrCmd w) s = .next t →
    if t.err = .invalidInput then t.run = false ∧ t.phase = s.phase ∧ t.idx = s.idx
    else t.run = true ∧ t.phase = 0x02#8 ∧ t.idx = 0#64) ∧
  ∀ s t : State, s.run = true → Request.reset ∉ s.pending → step s = .next t →
    (s.phase = 0x02#8 → t.phase = (if s.nlen.toNat = 12 then 0x03#8 else 0x04#8) ∧ t.idx = 0#64) ∧
    (s.phase = 0x03#8 → t.phase = 0x08#8 ∧ t.idx = 0#64) ∧
    (s.phase = 0x04#8 → t.phase = 0x05#8 ∧ t.idx = 0#64) ∧
    (s.phase = 0x05#8 → if s.idx.toNat + 1 < (s.nlen.toNat + 15) / 16 then t.phase = 0x05#8 ∧ t.idx = s.idx + 1#64
      else t.phase = 0x06#8 ∧ t.idx = 0#64) ∧
    (s.phase = 0x06#8 → t.phase = 0x07#8 ∧ t.idx = 0#64) ∧
    (s.phase = 0x07#8 → t.phase = 0x08#8 ∧ t.idx = 0#64) ∧
    (s.phase = 0x08#8 → t.phase = (if 0 < (s.tlen.toNat + 15) / 16 then 0x09#8 else 0x0B#8) ∧ t.idx = 0#64) ∧
    (s.phase = 0x09#8 → t.phase = 0x0A#8 ∧ t.idx = s.idx) ∧
    (s.phase = 0x0A#8 → if s.idx.toNat + 1 < (s.tlen.toNat + 15) / 16 then t.phase = 0x09#8 ∧ t.idx = s.idx + 1#64
      else t.phase = 0x0B#8 ∧ t.idx = 0#64) ∧
    (s.phase = 0x0B#8 → t.phase = (if 0 < (s.alen.toNat + 15) / 16 then 0x0C#8
      else if 0 < (s.tlen.toNat + 15) / 16 then 0x0D#8 else 0x0E#8) ∧ t.idx = 0#64) ∧
    (s.phase = 0x0C#8 → if s.idx.toNat + 1 < (s.alen.toNat + 15) / 16 then t.phase = 0x0C#8 ∧ t.idx = s.idx + 1#64
      else t.phase = (if 0 < (s.tlen.toNat + 15) / 16 then 0x0D#8 else 0x0E#8) ∧ t.idx = 0#64) ∧
    (s.phase = 0x0D#8 → if s.idx.toNat + 1 < (s.tlen.toNat + 15) / 16 then t.phase = 0x0D#8 ∧ t.idx = s.idx + 1#64
      else t.phase = 0x0E#8 ∧ t.idx = 0#64) ∧
    (s.phase = 0x0E#8 → t.phase = 0x0F#8 ∧ t.idx = 0#64) ∧
    (s.phase = 0x0F#8 → t.phase = 0x10#8 ∧ t.idx = 0#64) ∧
    (s.phase = 0x10#8 → t.phase = (if s.cmd.toNat % 256 = 1 then 0x11#8 else 0x12#8) ∧ t.idx = 0#64) ∧
    (s.phase = 0x11#8 → t.phase = 0x15#8 ∧ t.idx = 0#64) ∧
    (s.phase = 0x12#8 → t.phase = (if t.diff = 0#8 then 0x13#8 else 0x14#8) ∧ t.idx = 0#64) ∧
    (s.phase = 0x13#8 → t.phase = 0x15#8 ∧ t.idx = 0#64) ∧
    (s.phase = 0x14#8 → t.phase = 0x15#8 ∧ t.idx = 0#64) ∧
    (s.phase = 0x15#8 → t.run = false ∧ t.phase = 0#8 ∧ t.idx = 0#64) ∧
    (s.phase ≠ 0x15#8 → t.run = true)

/-- From a state of the invariant a step stops only on a pending request that is no operation of the spec: no
micro-operation and no host operation raises anything but ERR and CAUSE (60_exceptions.md R210). A command word, reserved
or not, is never such a request (30_encoding.md R67(a)). That the others are refused is the model's choice: assumption
log 11. -/
def Obligations.StepStopsOnlyOnMalformedRequest : Prop :=
  ∀ s : State, s.Inv →
    (∃ t, step s = .next t) ∨
      (step s = .refused .malformedRequest ∧ s.run = false ∧
        ∃ r rest, s.pending = r :: rest ∧ (∀ i, decode (.request r) ≠ .ok i) ∧ ∀ w, r ≠ .cmd w)

/-! ## The multiplier -/

/-- MULX shifts right by one, folding R_CONST in where a one leaves, and so multiplies by x modulo the reduction
polynomial (40_gf128_multiplier.md R83). -/
def Obligations.MulxMultipliesByX : Prop :=
  ∀ v : Block, (mulx v).toNat = (v.toNat / 2) ^^^ (if v.toNat % 2 = 1 then 0xE1 * 2 ^ 120 else 0) ∧
    blockPoly (mulx v) = (Polynomial.X * blockPoly v) %ₘ fieldModulus

/-- GFMUL is the polynomial product modulo `x^128 + x^7 + x^2 + x + 1`, for every pair of Blocks, and writes nothing but
the unit's output, which is the model's own field `unitOut` (40_gf128_multiplier.md R82; assumption log 8). -/
def Obligations.GfmulIsProductModuloP : Prop :=
  ∀ (a b : Block) (s : State), ∃ z : Block, exec (.gfmul a b) s = .next { s with unitOut := z } ∧
    blockPoly z = (blockPoly a * blockPoly b) %ₘ fieldModulus ∧
    ∀ z' : Block, blockPoly z' = (blockPoly a * blockPoly b) %ₘ fieldModulus → z' = z

/-- The laws of GFMUL: commutative, distributive over XOR on both sides, zero absorbs, associative, identity, and x as
a factor (40_gf128_multiplier.md R86(a) to (f); the spec marks (d), (e) and (f) as derived). -/
def Obligations.GfmulLaws : Prop :=
  ∀ a b c : Block,
    gfmul a b = gfmul b a ∧ gfmul a (b ^^^ c) = gfmul a b ^^^ gfmul a c ∧
      gfmul (a ^^^ b) c = gfmul a c ^^^ gfmul b c ∧ gfmul a 0#128 = 0#128 ∧ gfmul 0#128 a = 0#128 ∧
      gfmul (gfmul a b) c = gfmul a (gfmul b c) ∧
      gfmul a 0x80000000000000000000000000000000#128 = a ∧
      gfmul a 0x40000000000000000000000000000000#128 = mulx a

/-! ## Counter and oracle -/

/-- INC32 adds one to the low 32 bits modulo 2^32 and keeps the high 96; `k` applications add `k`; it is a bijection of
period 2^32 (41_counter_keystream.md R100). By itself it answers in `unitOut`, the model's own field: assumption log 8. -/
def Obligations.Inc32WrapsInTheLowWord : Prop :=
  (∀ (v : Block) (s : State), ∃ u : Block, exec (.inc32 v) s = .next { s with unitOut := u } ∧
    u.toNat = v.toNat / 2 ^ 32 * 2 ^ 32 + (v.toNat % 2 ^ 32 + 1) % 2 ^ 32) ∧
  (∀ (v : Block) (k : Nat), inc32^[k] v = inc32By v k ∧
    (inc32By v k).toNat = v.toNat / 2 ^ 32 * 2 ^ 32 + (v.toNat % 2 ^ 32 + k) % 2 ^ 32) ∧
  Function.Bijective inc32 ∧ ∀ (v : Block) (k : Nat), inc32By v k = v ↔ 2 ^ 32 ∣ k

/-- The counter blocks of one command, for the greatest accepted text too, are distinct and differ from J0
(41_counter_keystream.md; the spec marks it "[derived: from rule R100 and 00_scope.md rule R5]"). -/
def Obligations.CounterBlocksAreDistinct : Prop :=
  ∀ (j : Block) (len i k : Nat), len ≤ 2 ^ 36 - 32 → i ≤ nblk len → k ≤ nblk len → i ≠ k → inc32By j i ≠ inc32By j k

/-- ECALL answers `E(KEY, b)` (in `unitOut`, the model's own field: assumption log 8) and changes nothing else; DERIVE_H
loads `E(KEY, 0^128)` unless it is cached (41_counter_keystream.md R101, R103). -/
def Obligations.OracleIsAskedUnderKey : Prop :=
  ∀ (b : Block) (s : State), exec (.ecall b) s = .next { s with unitOut := Config.E s.key b } ∧
    (s.hValid = false → exec .deriveH s = .next { s with h := Config.E s.key 0#128, hValid := true }) ∧
    (s.hValid = true → exec .deriveH s = .next s)

/-- J0_96: bytes 0 to 11 of J0 are the nonce's and the low 32 bits are 1; nothing else changes (41_counter_keystream.md).
The spec marks the low word's value "[from general knowledge, not in source]": assumption log 19. -/
def Obligations.J096IsNonceAndOne : Prop :=
  decode (.phase 0x03#8) = .ok .j096 ∧
  ∀ s : State, ∃ b : Block, exec .j096 s = .next { s with j0 := b } ∧
    (∀ k, k < 12 → byteAt b k = s.inByte .nonce k) ∧ b.toNat % 2 ^ 32 = 1

/-- NGH_INIT and GH_INIT zero S, GH_INIT also sets STATE; J0_TAKE moves S to J0 and zeroes S; CTR_INIT copies J0 to CB
(41_counter_keystream.md R105, R109, 42_ghash_accumulator.md R122). The spec marks J0 being the nonce's hash "[from
general knowledge, not in source]": assumption log 19. -/
def Obligations.HashStartsAndCounterMoves : Prop :=
  decode (.phase 0x04#8) = .ok .nghInit ∧ decode (.phase 0x0B#8) = .ok .ghInit ∧
    decode (.phase 0x07#8) = .ok .j0Take ∧ decode (.phase 0x08#8) = .ok .ctrInit ∧
  ∀ s : State, exec .nghInit s = .next { s with sReg := 0#128 } ∧
    exec .ghInit s = .next { s with sReg := 0#128, state := .keystreamApplied } ∧
    exec .j0Take s = .next { s with j0 := s.sReg, sReg := 0#128 } ∧ exec .ctrInit s = .next { s with cb := s.j0 }

/-- NGH_ABSORB folds the zero-padded nonce block IDX into S (41_counter_keystream.md, 42_ghash_accumulator.md R120, R121).
The spec marks the nonce's hashing "[from general knowledge, not in source]": assumption log 19. -/
def Obligations.NghAbsorbFoldsPaddedNonce : Prop :=
  decode (.phase 0x05#8) = .ok .nghAbsorb ∧
  ∀ s : State, ∃ x : Block, exec .nghAbsorb s = .next { s with sReg := gfmul (s.sReg ^^^ x) s.h } ∧
    ∀ k, k < 16 → byteAt x k =
      if 16 * s.idx.toNat + k < s.nlen.toNat then s.inByte .nonce (16 * s.idx.toNat + k) else 0#8

/-- NGH_LEN folds 64 zero bits and the nonce's bit length into S (41_counter_keystream.md). The spec marks this block
"[from general knowledge, not in source]": assumption log 19. -/
def Obligations.NghLenFoldsNonceLength : Prop :=
  decode (.phase 0x06#8) = .ok .nghLen ∧
  ∀ s : State, ∃ x : Block, exec .nghLen s = .next { s with sReg := gfmul (s.sReg ^^^ x) s.h } ∧
    (s.nlen.toNat < 2 ^ 61 → x.toNat = 8 * s.nlen.toNat)

/-- KS_BLOCK increments the low word of CB first, then asks the oracle for the new counter block
(41_counter_keystream.md R110). -/
def Obligations.KsBlockIncrementsThenEncrypts : Prop :=
  decode (.phase 0x09#8) = .ok .ksBlock ∧
  ∀ s : State, ∃ c : Block, exec .ksBlock s = .next { s with cb := c, ks := Config.E s.key c } ∧
    c.toNat = s.cb.toNat / 2 ^ 32 * 2 ^ 32 + (s.cb.toNat % 2 ^ 32 + 1) % 2 ^ 32

/-- XOR_TEXT writes, from offset 16 IDX of DOUT, the bytes of DIN there under the leading bytes of KS, as many as TLEN
leaves and at most 16; every other byte of DOUT and everything else is unchanged (41_counter_keystream.md R111). -/
def Obligations.XorTextWritesTheTextBlock : Prop :=
  decode (.phase 0x0A#8) = .ok .xorText ∧
  ∀ s : State, ∃ t : State, exec .xorText s = .next t ∧ t = { s with dout := t.dout } ∧
    ∀ off, t.doutByte off =
      if 16 * s.idx.toNat ≤ off ∧ off < 16 * s.idx.toNat + min 16 (s.tlen.toNat - 16 * s.idx.toNat) then
        s.inByte .din off ^^^ byteAt s.ks (off - 16 * s.idx.toNat)
      else s.doutByte off

/-! ## The hash -/

/-- GH_AAD folds the zero-padded AAD block IDX into S (42_ghash_accumulator.md R123, R120, R121). -/
def Obligations.GhAadFoldsPaddedAad : Prop :=
  decode (.phase 0x0C#8) = .ok .ghAad ∧
  ∀ s : State, ∃ x : Block, exec .ghAad s = .next { s with sReg := gfmul (s.sReg ^^^ x) s.h } ∧
    ∀ k, k < 16 → byteAt x k =
      if 16 * s.idx.toNat + k < s.alen.toNat then s.inByte .aad (16 * s.idx.toNat + k) else 0#8

/-- GH_CT folds the zero-padded ciphertext block IDX into S: from DOUT when OP is SEAL, from DIN otherwise
(42_ghash_accumulator.md R124, R120, R121). -/
def Obligations.GhCtFoldsPaddedCiphertext : Prop :=
  decode (.phase 0x0D#8) = .ok .ghCt ∧
  ∀ s : State, ∃ x : Block, exec .ghCt s = .next { s with sReg := gfmul (s.sReg ^^^ x) s.h } ∧
    ∀ k, k < 16 → byteAt x k =
      if 16 * s.idx.toNat + k < s.tlen.toNat then
        (if s.cmd.toNat % 256 = 1 then s.doutByte (16 * s.idx.toNat + k) else s.inByte .din (16 * s.idx.toNat + k))
      else 0#8

/-- GH_LEN folds the length block into S: the AAD's bit length in the high half, the text's in the low half
(42_ghash_accumulator.md R125, R127). -/
def Obligations.GhLenFoldsLengthBlock : Prop :=
  decode (.phase 0x0E#8) = .ok .ghLen ∧
  ∀ s : State, ∃ x : Block, exec .ghLen s = .next { s with sReg := gfmul (s.sReg ^^^ x) s.h } ∧
    (s.alen.toNat < 2 ^ 61 → s.tlen.toNat < 2 ^ 61 →
      x.toNat = 8 * s.alen.toNat * 2 ^ 64 + 8 * s.tlen.toNat)

/-! ## The tag -/

/-- MASK_J0 encrypts J0 itself; TAG_FORM XORs the hash with it and sets STATE (43_tag_engine.md R140, R141). -/
def Obligations.TagIsHashUnderMask : Prop :=
  decode (.phase 0x0F#8) = .ok .maskJ0 ∧ decode (.phase 0x10#8) = .ok .tagForm ∧
  ∀ s : State, exec .maskJ0 s = .next { s with ej0 := Config.E s.key s.j0 } ∧
    exec .tagForm s = .next { s with tReg := s.sReg ^^^ s.ej0, state := .tagComputed }

/-- TAG_EMIT keeps bytes 0 to t - 1 of T in TAGOUT, zero bytes after, t being TAGBITS div 8, and sets STATE to Sealed
(43_tag_engine.md R142, R147). -/
def Obligations.TagEmitTruncates : Prop :=
  decode (.phase 0x11#8) = .ok .tagEmit ∧
  ∀ s : State, ∃ g : Block, exec .tagEmit s = .next { s with tagout := g, state := .sealed } ∧
    ∀ k, k < 16 → byteAt g k = if k < s.cmd.toNat / 2 ^ 8 % 256 / 8 then byteAt s.tReg k else 0#8

/-- TAG_CMP: DIFF is the OR of the byte differences of T and TAGIN over the first t bytes, and is zero exactly when those
bytes are equal (43_tag_engine.md R143). -/
def Obligations.TagCmpComparesTheTagBytes : Prop :=
  decode (.phase 0x12#8) = .ok .tagCmp ∧
  ∀ s : State, ∃ d : Byte, exec .tagCmp s = .next { s with diff := d } ∧
    (∀ j, d.getLsbD j = true ↔
      ∃ k, k < 16 ∧ k < s.cmd.toNat / 2 ^ 8 % 256 / 8 ∧ (byteAt s.tReg k ^^^ byteAt s.tagin k).getLsbD j = true) ∧
    (d = 0#8 ↔ ∀ k, k < 16 → k < s.cmd.toNat / 2 ^ 8 % 256 / 8 → byteAt s.tReg k = byteAt s.tagin k)

/-- ZEROIZE clears every byte of DOUT, sets STATE to Rejected and takes AuthenticationFailure: ERR 2, CAUSE 0, nothing
else (43_tag_engine.md R145, 60_exceptions.md R215). -/
def Obligations.ZeroizeClearsAndTakesAuthenticationFailure : Prop :=
  decode (.phase 0x14#8) = .ok .zeroize ∧
  ∀ s : State, ∃ t : State, exec .zeroize s = .next t ∧ (∀ off, t.doutByte off = 0#8) ∧
    t = { s with dout := t.dout, state := .rejected, err := .authFailure, cause := .none } ∧
    t.err.code = 2#2 ∧ t.cause.code = 0#4

/-- RELEASE sets STATE to Opened and nothing else; CLEANUP zeroes the temporaries and the sequencer position and clears
RUN, and nothing else (43_tag_engine.md R144, R146). -/
def Obligations.ReleaseOpensAndCleanupEnds : Prop :=
  decode (.phase 0x13#8) = .ok .release ∧ decode (.phase 0x15#8) = .ok .cleanup ∧
  ∀ s : State, exec .release s = .next { s with state := .opened } ∧
    exec .cleanup s = .next { s with
      j0 := 0#128, cb := 0#128, ks := 0#128, sReg := 0#128, ej0 := 0#128, tReg := 0#128, diff := 0#8,
      run := false, phase := 0#8, idx := 0#64 }

/-! ## Validation and the launch -/

/-- VALIDATE makes its checks in order; the first that fails sets ERR and its CAUSE; nothing else is written
(44_aead_orchestrator.md R162, 60_exceptions.md R213, R214). MAX_NONCE_BYTES is the field `maxNonceBytes`, whatever value
it has (assumption log 5). -/
def Obligations.ValidateReportsTheFirstFailure : Prop :=
  ∀ s : State, exec .validate s = .next (
    if s.cmd.toNat / 2 ^ 24 ≠ 0 ∨ (s.cmd.toNat % 256 ≠ 1 ∧ s.cmd.toNat % 256 ≠ 2) then
      { s with err := .invalidInput, cause := .reservedCmd }
    else if s.cmd.toNat / 2 ^ 16 % 256 ≠ 16 ∨ s.keyValid = false then { s with err := .invalidInput, cause := .key }
    else if s.nlen.toNat = 0 then { s with err := .invalidInput, cause := .nonceZero }
    else if s.nlen.toNat > s.maxNonceBytes then { s with err := .invalidInput, cause := .nonceTooLong }
    else if s.cmd.toNat / 2 ^ 8 % 256 ∉ [96, 104, 112, 120, 128] then { s with err := .invalidInput, cause := .tagLen }
    else if s.tlen.toNat > 2 ^ 36 - 32 then { s with err := .invalidInput, cause := .textTooLong }
    else if s.alen.toNat > 2 ^ 36 - 32 then { s with err := .invalidInput, cause := .aadTooLong }
    else s)

/-- WR CMD stores the word, erases the results of the last command, validates, and either stops with RUN = 0 or starts
the sequencer at DERIVE_H; nothing else is written (45_host_access.md R196). -/
def Obligations.LaunchErasesValidatesStarts : Prop :=
  ∀ (w : BitVec 32) (s : State), s.run = false → ∃ e v : State,
    e = { s with cmd := w, state := .idle, err := .none, cause := .none, tagout := 0#128, dout := e.dout } ∧
      (∀ off, e.doutByte off = 0#8) ∧ exec .validate e = .next v ∧
      exec (.wrCmd w) s =
        .next (if v.err = .invalidInput then v else { v with run := true, phase := 0x02#8, idx := 0#64 })

/-- A command that fails validation only erases the last results and sets ERR 1 and its CAUSE, however it is launched:
no oracle request, no buffer read, H untouched, RUN still 0 (60_exceptions.md R214). -/
def Obligations.RefusedCommandOnlyErases : Prop :=
  ∀ (w : BitVec 32) (s v : State), s.run = false →
    exec .validate { s with cmd := w, state := .idle, err := .none, cause := .none, tagout := 0#128, dout := [] } =
      .next v → v.err = .invalidInput →
    v = { s with cmd := w, state := .idle, err := .invalidInput, cause := v.cause, tagout := 0#128, dout := [] } ∧
      v.cause ≠ .none ∧ exec (.wrCmd w) s = .next v ∧
      ∀ i, decode (.request (.cmd w)) = .ok i → exec i s = .next v

/-! ## Host access -/

/-- RD returns CMD, STATUS, NLEN, ALEN, TLEN, TAGIN or TAGOUT by number and 0 for KEY and every other number, and changes
nothing (45_host_access.md R191, R193, 30_encoding.md R62). The answer is the newest entry of `rdLog`, zero-extended, the
model's own field (assumption log 9). -/
def Obligations.RegisterReadsReturn : Prop :=
  ∀ s : State, s.run = false →
    exec (.rd 0) s = .next { s with rdLog := s.cmd.setWidth 128 :: s.rdLog } ∧
    exec (.rd 1) s = .next { s with rdLog := s.status.setWidth 128 :: s.rdLog } ∧
    exec .rdKey s = .next { s with rdLog := 0#128 :: s.rdLog } ∧
    exec (.rd 2) s = .next { s with rdLog := 0#128 :: s.rdLog } ∧
    exec (.rd 3) s = .next { s with rdLog := s.nlen.setWidth 128 :: s.rdLog } ∧
    exec (.rd 4) s = .next { s with rdLog := s.alen.setWidth 128 :: s.rdLog } ∧
    exec (.rd 5) s = .next { s with rdLog := s.tlen.setWidth 128 :: s.rdLog } ∧
    exec (.rd 6) s = .next { s with rdLog := s.tagin :: s.rdLog } ∧
    exec (.rd 7) s = .next { s with rdLog := s.tagout :: s.rdLog } ∧
    ∀ r, 8 ≤ r → exec (.rd r) s = .next { s with rdLog := 0#128 :: s.rdLog }

/-- STATUS holds STATE at [2:0], ERR at [5:4], CAUSE at [11:8], KEY_VALID at 16 and H_VALID at 17, and zero elsewhere
(30_encoding.md R63), with the codes of STATE, ERR and CAUSE that the tables of R64 and R65 list, and no other. -/
def Obligations.StatusLayout : Prop :=
  (∀ s : State, s.status.toNat =
    s.state.code.toNat + 2 ^ 4 * s.err.code.toNat + 2 ^ 8 * s.cause.code.toNat + 2 ^ 16 * s.keyValid.toNat
      + 2 ^ 17 * s.hValid.toNat) ∧
  StateCode.idle.code = 0#3 ∧ StateCode.keystreamApplied.code = 1#3 ∧ StateCode.tagComputed.code = 2#3 ∧
  StateCode.sealed.code = 3#3 ∧ StateCode.opened.code = 4#3 ∧ StateCode.rejected.code = 5#3 ∧
  ErrKind.none.code = 0#2 ∧ ErrKind.invalidInput.code = 1#2 ∧ ErrKind.authFailure.code = 2#2 ∧
  Cause.none.code = 0#4 ∧ Cause.key.code = 1#4 ∧ Cause.nonceZero.code = 2#4 ∧ Cause.tagLen.code = 3#4 ∧
  Cause.textTooLong.code = 4#4 ∧ Cause.aadTooLong.code = 5#4 ∧ Cause.reservedCmd.code = 6#4 ∧
  Cause.nonceTooLong.code = 7#4 ∧
  ∀ s : State, s.status.toNat % 2 ^ 3 ≤ 5 ∧ s.status.toNat / 2 ^ 4 % 2 ^ 2 ≤ 2 ∧ s.status.toNat / 2 ^ 8 % 2 ^ 4 ≤ 7

/-- WR KEY stores the key, sets KEY_VALID and drops the cached H; nothing else changes (45_host_access.md R192). -/
def Obligations.WriteKeyDropsTheSubkey : Prop :=
  ∀ (v : Block) (s : State), s.run = false →
    exec (.wrKey v) s = .next { s with key := v, keyValid := true, h := 0#128, hValid := false }

/-- WR NLEN, ALEN, TLEN and TAGIN store any value of the register's width and nothing else (45_host_access.md R194). -/
def Obligations.WriteLengthsAndTag : Prop :=
  ∀ (n : BitVec 64) (v : Block) (s : State), s.run = false →
    exec (.wrNlen n) s = .next { s with nlen := n } ∧ exec (.wrAlen n) s = .next { s with alen := n } ∧
      exec (.wrTlen n) s = .next { s with tlen := n } ∧ exec (.wrTagin v) s = .next { s with tagin := v }

/-- Writes of STATUS, of TAGOUT and of register numbers 8 and above are ignored (45_host_access.md R195). -/
def Obligations.IgnoredWrites : Prop :=
  ∀ (v : BitVec 32) (reg : Nat) (g : Block) (s : State), s.run = false →
    exec (.wrStatus v) s = .next s ∧ exec (.wrTagout reg g) s = .next s

/-- WRB to NONCE, AAD or DIN writes the one byte and nothing else (45_host_access.md R197). -/
def Obligations.HostWritesOneByte : Prop :=
  ∀ (sp : InSpace) (off : BitVec 64) (b : Byte) (s : State), s.run = false →
    ∃ t : State, exec (.wrb sp.toSpace off b) s = .next t ∧
      t = { s with nonce := t.nonce, aad := t.aad, din := t.din } ∧
      ∀ sp' x, t.inByte sp' x = if sp' = sp ∧ x = off.toNat then b else s.inByte sp' x

/-- RDB of NONCE, AAD or DIN returns the byte there, ungated, and changes nothing; WRB to DOUT is ignored
(45_host_access.md R198). The answer is the newest entry of `rdLog`, the model's own field (assumption log 9). -/
def Obligations.InputReadIsUngated : Prop :=
  ∀ (sp : InSpace) (off : BitVec 64) (b : Byte) (s : State), s.run = false →
    (∃ v : Block, exec (.rdbIn sp off) s = .next { s with rdLog := v :: s.rdLog } ∧
      v.toNat = (s.inByte sp off.toNat).toNat) ∧
    exec (.wrb .dout off b) s = .next s

/-- RDB DOUT returns the byte of DOUT if STATE is Sealed or Opened and the offset is below TLEN, else zero, and changes
nothing; behind a closed gate a state of a run has only zero bytes, which the spec marks as derived (45_host_access.md
R199). The answer is the newest entry of `rdLog`, the model's own field (assumption log 9). -/
def Obligations.OutputReadIsGated : Prop :=
  ∀ (off : BitVec 64) (s : State), s.run = false →
    ∃ v : Block, exec (.rdbDout off) s = .next { s with rdLog := v :: s.rdLog } ∧
      ((s.state = .sealed ∨ s.state = .opened) → off.toNat < s.tlen.toNat →
        v.toNat = (s.doutByte off.toNat).toNat) ∧
      (¬ ((s.state = .sealed ∨ s.state = .opened) ∧ off.toNat < s.tlen.toNat) → v = 0#128) ∧
      (s.Inv → s.state ≠ .sealed → s.state ≠ .opened → ∀ o, s.doutByte o = 0#8)

/-- RESET puts every register, flag and byte of DOUT at its reset value in every state; it is not held by a running
command, and what else was issued stays issued and follows it (70_reset_and_hazards.md R240). The clauses on `pending`
and on which reset strikes first, on `unitOut`, on `rdLog` and on `maxNonceBytes` are the model's choices: assumption logs
2, 8, 9 and 5. -/
def Obligations.ResetEventClears : Prop :=
  ∀ s : State, ∃ t : State, exec .reset s = .next t ∧ (∀ off, t.doutByte off = 0#8) ∧
    t.key = 0#128 ∧ t.h = 0#128 ∧ t.j0 = 0#128 ∧ t.cb = 0#128 ∧ t.ks = 0#128 ∧ t.sReg = 0#128 ∧ t.ej0 = 0#128 ∧
    t.tReg = 0#128 ∧ t.tagin = 0#128 ∧ t.tagout = 0#128 ∧ t.keyValid = false ∧ t.hValid = false ∧ t.diff = 0#8 ∧
    t.run = false ∧ t.phase = 0#8 ∧ t.idx = 0#64 ∧ t.state = .idle ∧ t.err = .none ∧ t.cause = .none ∧ t.cmd = 0#32 ∧
    t.nlen = 0#64 ∧ t.alen = 0#64 ∧ t.tlen = 0#64 ∧ t.pending = s.pending ∧ t.rdLog = s.rdLog ∧ t.unitOut = s.unitOut ∧
    t.maxNonceBytes = s.maxNonceBytes ∧
    (s.run = true → .reset ∈ s.pending → step s = exec .reset { s with pending := s.pending.erase .reset }) ∧
    (∀ rest, s.run = false → s.pending = .reset :: rest → step s = exec .reset { s with pending := rest })

/-- After reset every register and flag is zero, STATE is Idle, RUN is 0 and every byte of DOUT is zero (10_state.md
R33). -/
def Obligations.StateAfterReset : Prop :=
  State.reset.key = 0#128 ∧ State.reset.h = 0#128 ∧ State.reset.j0 = 0#128 ∧ State.reset.cb = 0#128 ∧
    State.reset.ks = 0#128 ∧ State.reset.sReg = 0#128 ∧ State.reset.ej0 = 0#128 ∧ State.reset.tReg = 0#128 ∧
    State.reset.tagin = 0#128 ∧ State.reset.tagout = 0#128 ∧ State.reset.diff = 0#8 ∧
    State.reset.keyValid = false ∧ State.reset.hValid = false ∧ State.reset.run = false ∧ State.reset.phase = 0#8 ∧
    State.reset.idx = 0#64 ∧ State.reset.state = .idle ∧ State.reset.state.code = 0#3 ∧
    State.reset.err.code = 0#2 ∧ State.reset.cause.code = 0#4 ∧ State.reset.cmd = 0#32 ∧ State.reset.nlen = 0#64 ∧
    State.reset.alen = 0#64 ∧ State.reset.tlen = 0#64 ∧ State.reset.status = 0#32 ∧
    ∀ off, State.reset.doutByte off = 0#8

/-! ## Whole commands -/

/-- A command that passed validation takes exactly the counted number of steps, RUN being 1 before each and 0 after the
last (44_aead_orchestrator.md; the spec marks the count "[derived: from rule R171]"). -/
def Obligations.CommandTakesTheCountedSteps : Prop :=
  ∀ (w : BitVec 32) (s l : State), s.run = false → Request.reset ∉ s.pending → exec (.wrCmd w) s = .next l →
    l.run = true →
    ∀ j, j ≤ l.countedSteps →
      ∃ u : State, Host.Core.run Sys2Proof.core j l = .next u ∧ (u.run = true ↔ j < l.countedSteps)

/-- SEAL or OPEN as one operation ends in the state that the launch and the steps of the sequencer end in
(45_host_access.md R190, 44_aead_orchestrator.md R160, R161; assumption log 6). -/
def Obligations.WholeCommandIsItsSteps : Prop :=
  ∀ (w : BitVec 32) (i : Instr) (s : State), s.run = false → Request.reset ∉ s.pending →
    decode (.request (.cmd w)) = .ok i →
    ∃ l t : State, exec (.wrCmd w) s = .next l ∧ exec i s = .next t ∧ t.run = false ∧
      Host.Core.run Sys2Proof.core (if l.run then l.countedSteps else 0) l = .next t

/-- What SEAL computes: the ciphertext in DOUT, zero elsewhere in it, the truncated tag in TAGOUT, STATE Sealed, no
error, H cached, temporaries zero, RUN 0, and everything else unchanged (44_aead_orchestrator.md, "SEAL as a function";
the spec marks it "[derived: from rule R160 and the rules of files 41, 42, 43]"). J0 is as the spec takes it from general
knowledge: assumption log 19. -/
def Obligations.SealComputesCiphertextAndTag : Prop :=
  ∀ (tagbits klen : Byte) (s : State), s.Inv → s.run = false → s.acceptsCommand tagbits klen →
    ∃ t : State, exec (.sealCmd tagbits klen) s = .next t ∧
      t = { s with
        cmd := cmdWord opSeal tagbits klen, state := .sealed, err := .none, cause := .none,
        h := Config.E s.key 0#128, hValid := true, dout := t.dout,
        tagout := trunc (s.fullTag Config.E (s.outTextByte Config.E)) (tagbits.toNat / 8) } ∧
      ∀ off, t.doutByte off = if off < s.tlen.toNat then s.outTextByte Config.E off else 0#8

/-- What OPEN computes: it opens exactly when the first t bytes of the recomputed tag are those of TAGIN; then DOUT holds
the plaintext; otherwise DOUT is all zero, STATE is Rejected and ERR is AuthenticationFailure; TAGOUT is zero, H is
cached, temporaries are zero, RUN is 0, and everything else is unchanged (44_aead_orchestrator.md, "OPEN as a function";
the spec marks it "[derived: from rule R161 and 43_tag_engine.md rule R149]"). J0 is as the spec takes it from general
knowledge: assumption log 19. -/
def Obligations.OpenVerifiesAndDecrypts : Prop :=
  ∀ (tagbits klen : Byte) (s : State), s.Inv → s.run = false → s.acceptsCommand tagbits klen →
    ∃ t : State, exec (.openCmd tagbits klen) s = .next t ∧
      (tagsAgree (s.fullTag Config.E (s.inByte .din)) s.tagin (tagbits.toNat / 8) →
        t = { s with
          cmd := cmdWord opOpen tagbits klen, state := .opened, err := .none, cause := .none,
          h := Config.E s.key 0#128, hValid := true, dout := t.dout, tagout := 0#128 } ∧
        ∀ off, t.doutByte off = if off < s.tlen.toNat then s.outTextByte Config.E off else 0#8) ∧
      (¬ tagsAgree (s.fullTag Config.E (s.inByte .din)) s.tagin (tagbits.toNat / 8) →
        t = { s with
          cmd := cmdWord opOpen tagbits klen, state := .rejected, err := .authFailure, cause := .none,
          h := Config.E s.key 0#128, hValid := true, dout := t.dout, tagout := 0#128 } ∧
        ∀ off, t.doutByte off = 0#8)

/-- Round trip: an OPEN with the key, nonce, AAD and tag length of a SEAL, its ciphertext and its tag bytes, ends Opened
with the plaintext of the SEAL, whatever the oracle, if the receiver's own MAX_NONCE_BYTES admits the nonce
(44_aead_orchestrator.md, "Round trip", which the spec derives from "SEAL as a function" and "OPEN as a function"). -/
def Obligations.OpenInvertsSeal : Prop :=
  ∀ (tagbits klen : Byte) (s t r : State), s.Inv → s.run = false → s.acceptsCommand tagbits klen →
    exec (.sealCmd tagbits klen) s = .next t → r.Inv → r.run = false → r.key = s.key → r.keyValid = true →
    r.nlen = s.nlen → r.alen = s.alen → r.tlen = s.tlen → s.nlen.toNat ≤ r.maxNonceBytes →
    (∀ k, k < s.nlen.toNat → r.inByte .nonce k = s.inByte .nonce k) →
    (∀ k, k < s.alen.toNat → r.inByte .aad k = s.inByte .aad k) →
    (∀ k, k < s.tlen.toNat → r.inByte .din k = t.doutByte k) →
    (∀ k, k < tagbits.toNat / 8 → byteAt r.tagin k = byteAt t.tagout k) →
    t.state = .sealed ∧ ∃ o : State, exec (.openCmd tagbits klen) r = .next o ∧ o.state = .opened ∧ o.err = .none ∧
      ∀ off, off < s.tlen.toNat → o.doutByte off = s.inByte .din off

/-- Changing a bit among the first t bytes of TAGIN of an OPEN that would have ended Opened makes it end Rejected with
DOUT all zero (44_aead_orchestrator.md; the spec marks it "[derived: from 43_tag_engine.md rule R143]"). -/
def Obligations.TamperedTagIsRejected : Prop :=
  ∀ (tagbits klen : Byte) (s t : State) (g : Block) (k : Nat), s.Inv → s.run = false →
    s.acceptsCommand tagbits klen → exec (.openCmd tagbits klen) s = .next t → t.state = .opened →
    k < tagbits.toNat / 8 → byteAt g k ≠ byteAt s.tagin k →
    ∃ o : State, exec (.openCmd tagbits klen) { s with tagin := g } = .next o ∧ o.state = .rejected ∧
      o.err = .authFailure ∧ ∀ off, o.doutByte off = 0#8

/-- AAD binds only into authentication: two SEALs that differ in AAD alone have the same ciphertext; and a SEAL with a
shorter tag emits the leading bytes of the longer one, with the same ciphertext (44_aead_orchestrator.md, "AAD binding
and truncation", which the spec derives from "SEAL as a function" and 43_tag_engine.md R147). -/
def Obligations.AadAndTagLengthLeaveCiphertext : Prop :=
  ∀ (tagbits tagbits' klen : Byte) (s r t u : State), s.Inv → r.Inv → s.run = false → r.run = false →
    s.acceptsCommand tagbits klen → r.acceptsCommand tagbits' klen → r.key = s.key → r.nlen = s.nlen →
    r.tlen = s.tlen → (∀ k, k < s.nlen.toNat → r.inByte .nonce k = s.inByte .nonce k) →
    (∀ k, k < s.tlen.toNat → r.inByte .din k = s.inByte .din k) →
    exec (.sealCmd tagbits klen) s = .next t → exec (.sealCmd tagbits' klen) r = .next u →
    (∀ off, u.doutByte off = t.doutByte off) ∧
      (r.alen = s.alen → (∀ k, k < s.alen.toNat → r.inByte .aad k = s.inByte .aad k) →
        ∀ k, k < tagbits.toNat / 8 → k < tagbits'.toNat / 8 → byteAt u.tagout k = byteAt t.tagout k)

/-- All failing OPENs leave the same host-readable results: the same STATUS, DOUT all zero, TAGOUT zero, wherever and
however the tags differ (60_exceptions.md R215; 43_tag_engine.md, which marks it "[derived: from rule R143, rule R145,
rule R146 and 44_aead_orchestrator.md rule R171]"). -/
def Obligations.FailedOpensLookAlike : Prop :=
  ∀ (tagbits klen : Byte) (s r t u : State), s.Inv → r.Inv → s.run = false → r.run = false →
    exec (.openCmd tagbits klen) s = .next t → exec (.openCmd tagbits klen) r = .next u →
    t.state = .rejected → u.state = .rejected →
    t.status = 0x00030025#32 ∧ u.status = 0x00030025#32 ∧ t.tagout = 0#128 ∧ u.tagout = 0#128 ∧
      ∀ off, t.doutByte off = 0#8 ∧ u.doutByte off = 0#8 ∧ t.gatedDout off = u.gatedDout off

/-- The micro-operation sequence depends on the lengths and the command word only, but for the one decision taken on
DIFF after TAG_CMP: no byte of KEY, of a buffer or of TAGIN changes where the sequencer goes (44_aead_orchestrator.md
R171; 43_tag_engine.md, which marks it as derived). -/
def Obligations.SequenceIgnoresData : Prop :=
  ∀ s r t u : State, s.run = true → r.run = true → Request.reset ∉ s.pending → Request.reset ∉ r.pending →
    s.phase = r.phase → s.idx = r.idx → s.cmd = r.cmd → s.nlen = r.nlen → s.alen = r.alen → s.tlen = r.tlen →
    step s = .next t → step r = .next u → (s.phase = 0x12#8 → (t.diff = 0#8 ↔ u.diff = 0#8)) →
    t.run = u.run ∧ t.phase = u.phase ∧ t.idx = u.idx

/-! ## Invariants and whole-machine rules -/

/-- The invariant holds right after reset (10_state.md R33), for every value of MAX_NONCE_BYTES up to its default; that
the parameter is a field of the state is the model's choice (assumption log 5). -/
def Obligations.InvariantHoldsAtReset : Prop :=
  State.reset.Inv ∧ ∀ n, n ≤ 2 ^ 61 - 1 → ({ State.reset with maxNonceBytes := n } : State).Inv

/-- Every step from a state that satisfies the invariant leads to one that does (10_state.md R21, R24, R25, R26; the
clauses on the temporaries, on the cached H and on DOUT when Rejected are what 10_state.md marks as derived, and the
one on MAX_NONCE_BYTES is about the model's own field: assumption log 5). -/
def Obligations.StepKeepsTheInvariant : Prop :=
  ∀ s t : State, s.Inv → step s = .next t → t.Inv

/-- Every step keeps the four buffers in canonical form, from every state in which they are (20_memory.md R41, R43; that
form is the model's own: equal buffers are equal data). -/
def Obligations.StepKeepsBuffersCanonical : Prop :=
  ∀ s t : State, s.buffersCanonical → step s = .next t → t.buffersCanonical

/-- No operation and no step changes MAX_NONCE_BYTES: it is a parameter of the block and no state (00_scope.md R5,
10_state.md R10), and stands in the state by the model's choice (assumption log 5). -/
def Obligations.ParameterNeverChanges : Prop :=
  (∀ (i : Instr) (s t : State), exec i s = .next t → t.maxNonceBytes = s.maxNonceBytes) ∧
    ∀ s t : State, step s = .next t → t.maxNonceBytes = s.maxNonceBytes

/-- KEY and KEY_VALID change only by a host write of KEY, which stores its value, and by reset, which zeroes them
(10_state.md R12, R23). -/
def Obligations.KeyChangesOnlyByHostOrReset : Prop :=
  ∀ s t : State, step s = .next t →
    (t.key = s.key ∧ t.keyValid = s.keyValid) ∨
      (s.run = false ∧ ∃ v rest, s.pending = .wr 2 v :: rest ∧ t.key = v ∧ t.keyValid = true) ∨
      (s.resetStrikes ∧ t.key = 0#128 ∧ t.keyValid = false)

/-- STATE changes only along the edges of the state machine (44_aead_orchestrator.md R170); a command performed as one
operation (assumption log 6) ends where its steps would. -/
def Obligations.StateFollowsItsEdges : Prop :=
  ∀ s t : State, s.Inv → step s = .next t → t.state ≠ s.state →
    (s.run = false ∧ t.state = .idle ∧ ∃ w rest, s.pending = .wr 0 w :: rest) ∨
      (s.resetStrikes ∧ t.state = .idle) ∨
      (s.run = true ∧ s.phase = 0x0B#8 ∧ s.state = .idle ∧ t.state = .keystreamApplied) ∨
      (s.run = true ∧ s.phase = 0x10#8 ∧ s.state = .keystreamApplied ∧ t.state = .tagComputed) ∨
      (s.run = true ∧ s.phase = 0x11#8 ∧ s.state = .tagComputed ∧ t.state = .sealed) ∨
      (s.run = true ∧ s.phase = 0x13#8 ∧ s.state = .tagComputed ∧ t.state = .opened) ∨
      (s.run = true ∧ s.phase = 0x14#8 ∧ s.state = .tagComputed ∧ t.state = .rejected) ∨
      (s.run = false ∧ (∃ w rest, s.pending = .cmd w :: rest) ∧
        t.state ∈ [StateCode.idle, .sealed, .opened, .rejected])

/-- ERR and CAUSE are sticky: a step changes them only by a launch, by ZEROIZE or by a reset (60_exceptions.md R217,
10_state.md R26), or by VALIDATE performed by itself, which is the model's choice and no operation of the host
(assumption log 8). -/
def Obligations.ErrorIsStickyUntilTheNextLaunch : Prop :=
  ∀ s t : State, step s = .next t → (t.err ≠ s.err ∨ t.cause ≠ s.cause) →
    s.resetStrikes ∨ (s.run = true ∧ s.phase = 0x14#8) ∨
      (s.run = false ∧ ((∃ w rest, s.pending = .wr 0 w :: rest) ∨ (∃ w rest, s.pending = .cmd w :: rest) ∨
        ∃ rest, s.pending = .invoke 0x01#8 0#128 0#128 :: rest))

/-- No host read tells apart two states that differ only in KEY, H, J0, CB, KS, S, EJ0, T, DIFF and bytes of DOUT behind
the gate: every read answers the same in both (10_state.md R34). -/
def Obligations.SecretsHaveNoReadPath : Prop :=
  ∀ s r : State, s.run = false → r.run = false → s.sameToHost r →
    ∀ i : Instr, (i = .rdKey ∨ (∃ reg, i = .rd reg) ∨ (∃ sp off, i = .rdbIn sp off) ∨ ∃ off, i = .rdbDout off) →
      ∃ v : Block, exec i s = .next { s with rdLog := v :: s.rdLog } ∧ exec i r = .next { r with rdLog := v :: r.rdLog }
end

