-- ==== Sys2Proof/Laws/State.lean ====
section
/-! SUPPORT. One lemma per field per named update of `State`, each true by definition. -/

namespace Sys2Proof.Machine

open Sys2Proof

/-! ## `State.takeException` -/

@[simp] theorem State.takeException_key (s : State) (e : ErrKind) (c : Cause) : (s.takeException e c).key = s.key := rfl
@[simp] theorem State.takeException_h (s : State) (e : ErrKind) (c : Cause) : (s.takeException e c).h = s.h := rfl
@[simp] theorem State.takeException_j0 (s : State) (e : ErrKind) (c : Cause) : (s.takeException e c).j0 = s.j0 := rfl
@[simp] theorem State.takeException_cb (s : State) (e : ErrKind) (c : Cause) : (s.takeException e c).cb = s.cb := rfl
@[simp] theorem State.takeException_ks (s : State) (e : ErrKind) (c : Cause) : (s.takeException e c).ks = s.ks := rfl
@[simp] theorem State.takeException_sReg (s : State) (e : ErrKind) (c : Cause) : (s.takeException e c).sReg = s.sReg := rfl
@[simp] theorem State.takeException_ej0 (s : State) (e : ErrKind) (c : Cause) : (s.takeException e c).ej0 = s.ej0 := rfl
@[simp] theorem State.takeException_tReg (s : State) (e : ErrKind) (c : Cause) : (s.takeException e c).tReg = s.tReg := rfl
@[simp] theorem State.takeException_tagin (s : State) (e : ErrKind) (c : Cause) : (s.takeException e c).tagin = s.tagin := rfl
@[simp] theorem State.takeException_tagout (s : State) (e : ErrKind) (c : Cause) : (s.takeException e c).tagout = s.tagout := rfl
@[simp] theorem State.takeException_diff (s : State) (e : ErrKind) (c : Cause) : (s.takeException e c).diff = s.diff := rfl
@[simp] theorem State.takeException_keyValid (s : State) (e : ErrKind) (c : Cause) : (s.takeException e c).keyValid = s.keyValid := rfl
@[simp] theorem State.takeException_hValid (s : State) (e : ErrKind) (c : Cause) : (s.takeException e c).hValid = s.hValid := rfl
@[simp] theorem State.takeException_run (s : State) (e : ErrKind) (c : Cause) : (s.takeException e c).run = s.run := rfl
@[simp] theorem State.takeException_phase (s : State) (e : ErrKind) (c : Cause) : (s.takeException e c).phase = s.phase := rfl
@[simp] theorem State.takeException_idx (s : State) (e : ErrKind) (c : Cause) : (s.takeException e c).idx = s.idx := rfl
@[simp] theorem State.takeException_state (s : State) (e : ErrKind) (c : Cause) : (s.takeException e c).state = s.state := rfl
@[simp] theorem State.takeException_err (s : State) (e : ErrKind) (c : Cause) : (s.takeException e c).err = e := rfl
@[simp] theorem State.takeException_cause (s : State) (e : ErrKind) (c : Cause) : (s.takeException e c).cause = c := rfl
@[simp] theorem State.takeException_cmd (s : State) (e : ErrKind) (c : Cause) : (s.takeException e c).cmd = s.cmd := rfl
@[simp] theorem State.takeException_nlen (s : State) (e : ErrKind) (c : Cause) : (s.takeException e c).nlen = s.nlen := rfl
@[simp] theorem State.takeException_alen (s : State) (e : ErrKind) (c : Cause) : (s.takeException e c).alen = s.alen := rfl
@[simp] theorem State.takeException_tlen (s : State) (e : ErrKind) (c : Cause) : (s.takeException e c).tlen = s.tlen := rfl
@[simp] theorem State.takeException_nonce (s : State) (e : ErrKind) (c : Cause) : (s.takeException e c).nonce = s.nonce := rfl
@[simp] theorem State.takeException_aad (s : State) (e : ErrKind) (c : Cause) : (s.takeException e c).aad = s.aad := rfl
@[simp] theorem State.takeException_din (s : State) (e : ErrKind) (c : Cause) : (s.takeException e c).din = s.din := rfl
@[simp] theorem State.takeException_dout (s : State) (e : ErrKind) (c : Cause) : (s.takeException e c).dout = s.dout := rfl
@[simp] theorem State.takeException_pending (s : State) (e : ErrKind) (c : Cause) : (s.takeException e c).pending = s.pending := rfl
@[simp] theorem State.takeException_rdLog (s : State) (e : ErrKind) (c : Cause) : (s.takeException e c).rdLog = s.rdLog := rfl
@[simp] theorem State.takeException_unitOut (s : State) (e : ErrKind) (c : Cause) : (s.takeException e c).unitOut = s.unitOut := rfl
@[simp] theorem State.takeException_epoch (s : State) (e : ErrKind) (c : Cause) : (s.takeException e c).epoch = s.epoch := rfl
@[simp] theorem State.takeException_maxNonceBytes (s : State) (e : ErrKind) (c : Cause) : (s.takeException e c).maxNonceBytes = s.maxNonceBytes := rfl

/-! ## `State.clearException` -/

@[simp] theorem State.clearException_key (s : State) : (s.clearException).key = s.key := rfl
@[simp] theorem State.clearException_h (s : State) : (s.clearException).h = s.h := rfl
@[simp] theorem State.clearException_j0 (s : State) : (s.clearException).j0 = s.j0 := rfl
@[simp] theorem State.clearException_cb (s : State) : (s.clearException).cb = s.cb := rfl
@[simp] theorem State.clearException_ks (s : State) : (s.clearException).ks = s.ks := rfl
@[simp] theorem State.clearException_sReg (s : State) : (s.clearException).sReg = s.sReg := rfl
@[simp] theorem State.clearException_ej0 (s : State) : (s.clearException).ej0 = s.ej0 := rfl
@[simp] theorem State.clearException_tReg (s : State) : (s.clearException).tReg = s.tReg := rfl
@[simp] theorem State.clearException_tagin (s : State) : (s.clearException).tagin = s.tagin := rfl
@[simp] theorem State.clearException_tagout (s : State) : (s.clearException).tagout = s.tagout := rfl
@[simp] theorem State.clearException_diff (s : State) : (s.clearException).diff = s.diff := rfl
@[simp] theorem State.clearException_keyValid (s : State) : (s.clearException).keyValid = s.keyValid := rfl
@[simp] theorem State.clearException_hValid (s : State) : (s.clearException).hValid = s.hValid := rfl
@[simp] theorem State.clearException_run (s : State) : (s.clearException).run = s.run := rfl
@[simp] theorem State.clearException_phase (s : State) : (s.clearException).phase = s.phase := rfl
@[simp] theorem State.clearException_idx (s : State) : (s.clearException).idx = s.idx := rfl
@[simp] theorem State.clearException_state (s : State) : (s.clearException).state = s.state := rfl
@[simp] theorem State.clearException_err (s : State) : (s.clearException).err = .none := rfl
@[simp] theorem State.clearException_cause (s : State) : (s.clearException).cause = .none := rfl
@[simp] theorem State.clearException_cmd (s : State) : (s.clearException).cmd = s.cmd := rfl
@[simp] theorem State.clearException_nlen (s : State) : (s.clearException).nlen = s.nlen := rfl
@[simp] theorem State.clearException_alen (s : State) : (s.clearException).alen = s.alen := rfl
@[simp] theorem State.clearException_tlen (s : State) : (s.clearException).tlen = s.tlen := rfl
@[simp] theorem State.clearException_nonce (s : State) : (s.clearException).nonce = s.nonce := rfl
@[simp] theorem State.clearException_aad (s : State) : (s.clearException).aad = s.aad := rfl
@[simp] theorem State.clearException_din (s : State) : (s.clearException).din = s.din := rfl
@[simp] theorem State.clearException_dout (s : State) : (s.clearException).dout = s.dout := rfl
@[simp] theorem State.clearException_pending (s : State) : (s.clearException).pending = s.pending := rfl
@[simp] theorem State.clearException_rdLog (s : State) : (s.clearException).rdLog = s.rdLog := rfl
@[simp] theorem State.clearException_unitOut (s : State) : (s.clearException).unitOut = s.unitOut := rfl
@[simp] theorem State.clearException_epoch (s : State) : (s.clearException).epoch = s.epoch := rfl
@[simp] theorem State.clearException_maxNonceBytes (s : State) : (s.clearException).maxNonceBytes = s.maxNonceBytes := rfl

/-! ## `State.clearDout` -/

@[simp] theorem State.clearDout_key (s : State) : (s.clearDout).key = s.key := rfl
@[simp] theorem State.clearDout_h (s : State) : (s.clearDout).h = s.h := rfl
@[simp] theorem State.clearDout_j0 (s : State) : (s.clearDout).j0 = s.j0 := rfl
@[simp] theorem State.clearDout_cb (s : State) : (s.clearDout).cb = s.cb := rfl
@[simp] theorem State.clearDout_ks (s : State) : (s.clearDout).ks = s.ks := rfl
@[simp] theorem State.clearDout_sReg (s : State) : (s.clearDout).sReg = s.sReg := rfl
@[simp] theorem State.clearDout_ej0 (s : State) : (s.clearDout).ej0 = s.ej0 := rfl
@[simp] theorem State.clearDout_tReg (s : State) : (s.clearDout).tReg = s.tReg := rfl
@[simp] theorem State.clearDout_tagin (s : State) : (s.clearDout).tagin = s.tagin := rfl
@[simp] theorem State.clearDout_tagout (s : State) : (s.clearDout).tagout = s.tagout := rfl
@[simp] theorem State.clearDout_diff (s : State) : (s.clearDout).diff = s.diff := rfl
@[simp] theorem State.clearDout_keyValid (s : State) : (s.clearDout).keyValid = s.keyValid := rfl
@[simp] theorem State.clearDout_hValid (s : State) : (s.clearDout).hValid = s.hValid := rfl
@[simp] theorem State.clearDout_run (s : State) : (s.clearDout).run = s.run := rfl
@[simp] theorem State.clearDout_phase (s : State) : (s.clearDout).phase = s.phase := rfl
@[simp] theorem State.clearDout_idx (s : State) : (s.clearDout).idx = s.idx := rfl
@[simp] theorem State.clearDout_state (s : State) : (s.clearDout).state = s.state := rfl
@[simp] theorem State.clearDout_err (s : State) : (s.clearDout).err = s.err := rfl
@[simp] theorem State.clearDout_cause (s : State) : (s.clearDout).cause = s.cause := rfl
@[simp] theorem State.clearDout_cmd (s : State) : (s.clearDout).cmd = s.cmd := rfl
@[simp] theorem State.clearDout_nlen (s : State) : (s.clearDout).nlen = s.nlen := rfl
@[simp] theorem State.clearDout_alen (s : State) : (s.clearDout).alen = s.alen := rfl
@[simp] theorem State.clearDout_tlen (s : State) : (s.clearDout).tlen = s.tlen := rfl
@[simp] theorem State.clearDout_nonce (s : State) : (s.clearDout).nonce = s.nonce := rfl
@[simp] theorem State.clearDout_aad (s : State) : (s.clearDout).aad = s.aad := rfl
@[simp] theorem State.clearDout_din (s : State) : (s.clearDout).din = s.din := rfl
@[simp] theorem State.clearDout_dout (s : State) : (s.clearDout).dout = [] := rfl
@[simp] theorem State.clearDout_pending (s : State) : (s.clearDout).pending = s.pending := rfl
@[simp] theorem State.clearDout_rdLog (s : State) : (s.clearDout).rdLog = s.rdLog := rfl
@[simp] theorem State.clearDout_unitOut (s : State) : (s.clearDout).unitOut = s.unitOut := rfl
@[simp] theorem State.clearDout_epoch (s : State) : (s.clearDout).epoch = s.epoch := rfl
@[simp] theorem State.clearDout_maxNonceBytes (s : State) : (s.clearDout).maxNonceBytes = s.maxNonceBytes := rfl

/-! ## `State.memWriteDout` -/

@[simp] theorem State.memWriteDout_key (s : State) (off : Nat) (bs : List Byte) : (s.memWriteDout off bs).key = s.key := rfl
@[simp] theorem State.memWriteDout_h (s : State) (off : Nat) (bs : List Byte) : (s.memWriteDout off bs).h = s.h := rfl
@[simp] theorem State.memWriteDout_j0 (s : State) (off : Nat) (bs : List Byte) : (s.memWriteDout off bs).j0 = s.j0 := rfl
@[simp] theorem State.memWriteDout_cb (s : State) (off : Nat) (bs : List Byte) : (s.memWriteDout off bs).cb = s.cb := rfl
@[simp] theorem State.memWriteDout_ks (s : State) (off : Nat) (bs : List Byte) : (s.memWriteDout off bs).ks = s.ks := rfl
@[simp] theorem State.memWriteDout_sReg (s : State) (off : Nat) (bs : List Byte) : (s.memWriteDout off bs).sReg = s.sReg := rfl
@[simp] theorem State.memWriteDout_ej0 (s : State) (off : Nat) (bs : List Byte) : (s.memWriteDout off bs).ej0 = s.ej0 := rfl
@[simp] theorem State.memWriteDout_tReg (s : State) (off : Nat) (bs : List Byte) : (s.memWriteDout off bs).tReg = s.tReg := rfl
@[simp] theorem State.memWriteDout_tagin (s : State) (off : Nat) (bs : List Byte) : (s.memWriteDout off bs).tagin = s.tagin := rfl
@[simp] theorem State.memWriteDout_tagout (s : State) (off : Nat) (bs : List Byte) : (s.memWriteDout off bs).tagout = s.tagout := rfl
@[simp] theorem State.memWriteDout_diff (s : State) (off : Nat) (bs : List Byte) : (s.memWriteDout off bs).diff = s.diff := rfl
@[simp] theorem State.memWriteDout_keyValid (s : State) (off : Nat) (bs : List Byte) : (s.memWriteDout off bs).keyValid = s.keyValid := rfl
@[simp] theorem State.memWriteDout_hValid (s : State) (off : Nat) (bs : List Byte) : (s.memWriteDout off bs).hValid = s.hValid := rfl
@[simp] theorem State.memWriteDout_run (s : State) (off : Nat) (bs : List Byte) : (s.memWriteDout off bs).run = s.run := rfl
@[simp] theorem State.memWriteDout_phase (s : State) (off : Nat) (bs : List Byte) : (s.memWriteDout off bs).phase = s.phase := rfl
@[simp] theorem State.memWriteDout_idx (s : State) (off : Nat) (bs : List Byte) : (s.memWriteDout off bs).idx = s.idx := rfl
@[simp] theorem State.memWriteDout_state (s : State) (off : Nat) (bs : List Byte) : (s.memWriteDout off bs).state = s.state := rfl
@[simp] theorem State.memWriteDout_err (s : State) (off : Nat) (bs : List Byte) : (s.memWriteDout off bs).err = s.err := rfl
@[simp] theorem State.memWriteDout_cause (s : State) (off : Nat) (bs : List Byte) : (s.memWriteDout off bs).cause = s.cause := rfl
@[simp] theorem State.memWriteDout_cmd (s : State) (off : Nat) (bs : List Byte) : (s.memWriteDout off bs).cmd = s.cmd := rfl
@[simp] theorem State.memWriteDout_nlen (s : State) (off : Nat) (bs : List Byte) : (s.memWriteDout off bs).nlen = s.nlen := rfl
@[simp] theorem State.memWriteDout_alen (s : State) (off : Nat) (bs : List Byte) : (s.memWriteDout off bs).alen = s.alen := rfl
@[simp] theorem State.memWriteDout_tlen (s : State) (off : Nat) (bs : List Byte) : (s.memWriteDout off bs).tlen = s.tlen := rfl
@[simp] theorem State.memWriteDout_nonce (s : State) (off : Nat) (bs : List Byte) : (s.memWriteDout off bs).nonce = s.nonce := rfl
@[simp] theorem State.memWriteDout_aad (s : State) (off : Nat) (bs : List Byte) : (s.memWriteDout off bs).aad = s.aad := rfl
@[simp] theorem State.memWriteDout_din (s : State) (off : Nat) (bs : List Byte) : (s.memWriteDout off bs).din = s.din := rfl
@[simp] theorem State.memWriteDout_dout (s : State) (off : Nat) (bs : List Byte) : (s.memWriteDout off bs).dout = memWriteBytes (bufferDefault .dout) s.dout off bs := rfl
@[simp] theorem State.memWriteDout_pending (s : State) (off : Nat) (bs : List Byte) : (s.memWriteDout off bs).pending = s.pending := rfl
@[simp] theorem State.memWriteDout_rdLog (s : State) (off : Nat) (bs : List Byte) : (s.memWriteDout off bs).rdLog = s.rdLog := rfl
@[simp] theorem State.memWriteDout_unitOut (s : State) (off : Nat) (bs : List Byte) : (s.memWriteDout off bs).unitOut = s.unitOut := rfl
@[simp] theorem State.memWriteDout_epoch (s : State) (off : Nat) (bs : List Byte) : (s.memWriteDout off bs).epoch = s.epoch := rfl
@[simp] theorem State.memWriteDout_maxNonceBytes (s : State) (off : Nat) (bs : List Byte) : (s.memWriteDout off bs).maxNonceBytes = s.maxNonceBytes := rfl

/-! ## `State.beginLaunch` -/

@[simp] theorem State.beginLaunch_key (s : State) (w : BitVec 32) : (s.beginLaunch w).key = s.key := rfl
@[simp] theorem State.beginLaunch_h (s : State) (w : BitVec 32) : (s.beginLaunch w).h = s.h := rfl
@[simp] theorem State.beginLaunch_j0 (s : State) (w : BitVec 32) : (s.beginLaunch w).j0 = s.j0 := rfl
@[simp] theorem State.beginLaunch_cb (s : State) (w : BitVec 32) : (s.beginLaunch w).cb = s.cb := rfl
@[simp] theorem State.beginLaunch_ks (s : State) (w : BitVec 32) : (s.beginLaunch w).ks = s.ks := rfl
@[simp] theorem State.beginLaunch_sReg (s : State) (w : BitVec 32) : (s.beginLaunch w).sReg = s.sReg := rfl
@[simp] theorem State.beginLaunch_ej0 (s : State) (w : BitVec 32) : (s.beginLaunch w).ej0 = s.ej0 := rfl
@[simp] theorem State.beginLaunch_tReg (s : State) (w : BitVec 32) : (s.beginLaunch w).tReg = s.tReg := rfl
@[simp] theorem State.beginLaunch_tagin (s : State) (w : BitVec 32) : (s.beginLaunch w).tagin = s.tagin := rfl
@[simp] theorem State.beginLaunch_tagout (s : State) (w : BitVec 32) : (s.beginLaunch w).tagout = 0#128 := rfl
@[simp] theorem State.beginLaunch_diff (s : State) (w : BitVec 32) : (s.beginLaunch w).diff = s.diff := rfl
@[simp] theorem State.beginLaunch_keyValid (s : State) (w : BitVec 32) : (s.beginLaunch w).keyValid = s.keyValid := rfl
@[simp] theorem State.beginLaunch_hValid (s : State) (w : BitVec 32) : (s.beginLaunch w).hValid = s.hValid := rfl
@[simp] theorem State.beginLaunch_run (s : State) (w : BitVec 32) : (s.beginLaunch w).run = s.run := rfl
@[simp] theorem State.beginLaunch_phase (s : State) (w : BitVec 32) : (s.beginLaunch w).phase = s.phase := rfl
@[simp] theorem State.beginLaunch_idx (s : State) (w : BitVec 32) : (s.beginLaunch w).idx = s.idx := rfl
@[simp] theorem State.beginLaunch_state (s : State) (w : BitVec 32) : (s.beginLaunch w).state = .idle := rfl
@[simp] theorem State.beginLaunch_err (s : State) (w : BitVec 32) : (s.beginLaunch w).err = .none := rfl
@[simp] theorem State.beginLaunch_cause (s : State) (w : BitVec 32) : (s.beginLaunch w).cause = .none := rfl
@[simp] theorem State.beginLaunch_cmd (s : State) (w : BitVec 32) : (s.beginLaunch w).cmd = w := rfl
@[simp] theorem State.beginLaunch_nlen (s : State) (w : BitVec 32) : (s.beginLaunch w).nlen = s.nlen := rfl
@[simp] theorem State.beginLaunch_alen (s : State) (w : BitVec 32) : (s.beginLaunch w).alen = s.alen := rfl
@[simp] theorem State.beginLaunch_tlen (s : State) (w : BitVec 32) : (s.beginLaunch w).tlen = s.tlen := rfl
@[simp] theorem State.beginLaunch_nonce (s : State) (w : BitVec 32) : (s.beginLaunch w).nonce = s.nonce := rfl
@[simp] theorem State.beginLaunch_aad (s : State) (w : BitVec 32) : (s.beginLaunch w).aad = s.aad := rfl
@[simp] theorem State.beginLaunch_din (s : State) (w : BitVec 32) : (s.beginLaunch w).din = s.din := rfl
@[simp] theorem State.beginLaunch_dout (s : State) (w : BitVec 32) : (s.beginLaunch w).dout = [] := rfl
@[simp] theorem State.beginLaunch_pending (s : State) (w : BitVec 32) : (s.beginLaunch w).pending = s.pending := rfl
@[simp] theorem State.beginLaunch_rdLog (s : State) (w : BitVec 32) : (s.beginLaunch w).rdLog = s.rdLog := rfl
@[simp] theorem State.beginLaunch_unitOut (s : State) (w : BitVec 32) : (s.beginLaunch w).unitOut = s.unitOut := rfl
@[simp] theorem State.beginLaunch_epoch (s : State) (w : BitVec 32) : (s.beginLaunch w).epoch = s.epoch := rfl
@[simp] theorem State.beginLaunch_maxNonceBytes (s : State) (w : BitVec 32) : (s.beginLaunch w).maxNonceBytes = s.maxNonceBytes := rfl

/-! ## `State.setSeq` -/

@[simp] theorem State.setSeq_key (s : State) (u : Uop) (i : BitVec 64) : (s.setSeq u i).key = s.key := rfl
@[simp] theorem State.setSeq_h (s : State) (u : Uop) (i : BitVec 64) : (s.setSeq u i).h = s.h := rfl
@[simp] theorem State.setSeq_j0 (s : State) (u : Uop) (i : BitVec 64) : (s.setSeq u i).j0 = s.j0 := rfl
@[simp] theorem State.setSeq_cb (s : State) (u : Uop) (i : BitVec 64) : (s.setSeq u i).cb = s.cb := rfl
@[simp] theorem State.setSeq_ks (s : State) (u : Uop) (i : BitVec 64) : (s.setSeq u i).ks = s.ks := rfl
@[simp] theorem State.setSeq_sReg (s : State) (u : Uop) (i : BitVec 64) : (s.setSeq u i).sReg = s.sReg := rfl
@[simp] theorem State.setSeq_ej0 (s : State) (u : Uop) (i : BitVec 64) : (s.setSeq u i).ej0 = s.ej0 := rfl
@[simp] theorem State.setSeq_tReg (s : State) (u : Uop) (i : BitVec 64) : (s.setSeq u i).tReg = s.tReg := rfl
@[simp] theorem State.setSeq_tagin (s : State) (u : Uop) (i : BitVec 64) : (s.setSeq u i).tagin = s.tagin := rfl
@[simp] theorem State.setSeq_tagout (s : State) (u : Uop) (i : BitVec 64) : (s.setSeq u i).tagout = s.tagout := rfl
@[simp] theorem State.setSeq_diff (s : State) (u : Uop) (i : BitVec 64) : (s.setSeq u i).diff = s.diff := rfl
@[simp] theorem State.setSeq_keyValid (s : State) (u : Uop) (i : BitVec 64) : (s.setSeq u i).keyValid = s.keyValid := rfl
@[simp] theorem State.setSeq_hValid (s : State) (u : Uop) (i : BitVec 64) : (s.setSeq u i).hValid = s.hValid := rfl
@[simp] theorem State.setSeq_run (s : State) (u : Uop) (i : BitVec 64) : (s.setSeq u i).run = s.run := rfl
@[simp] theorem State.setSeq_phase (s : State) (u : Uop) (i : BitVec 64) : (s.setSeq u i).phase = u.code := rfl
@[simp] theorem State.setSeq_idx (s : State) (u : Uop) (i : BitVec 64) : (s.setSeq u i).idx = i := rfl
@[simp] theorem State.setSeq_state (s : State) (u : Uop) (i : BitVec 64) : (s.setSeq u i).state = s.state := rfl
@[simp] theorem State.setSeq_err (s : State) (u : Uop) (i : BitVec 64) : (s.setSeq u i).err = s.err := rfl
@[simp] theorem State.setSeq_cause (s : State) (u : Uop) (i : BitVec 64) : (s.setSeq u i).cause = s.cause := rfl
@[simp] theorem State.setSeq_cmd (s : State) (u : Uop) (i : BitVec 64) : (s.setSeq u i).cmd = s.cmd := rfl
@[simp] theorem State.setSeq_nlen (s : State) (u : Uop) (i : BitVec 64) : (s.setSeq u i).nlen = s.nlen := rfl
@[simp] theorem State.setSeq_alen (s : State) (u : Uop) (i : BitVec 64) : (s.setSeq u i).alen = s.alen := rfl
@[simp] theorem State.setSeq_tlen (s : State) (u : Uop) (i : BitVec 64) : (s.setSeq u i).tlen = s.tlen := rfl
@[simp] theorem State.setSeq_nonce (s : State) (u : Uop) (i : BitVec 64) : (s.setSeq u i).nonce = s.nonce := rfl
@[simp] theorem State.setSeq_aad (s : State) (u : Uop) (i : BitVec 64) : (s.setSeq u i).aad = s.aad := rfl
@[simp] theorem State.setSeq_din (s : State) (u : Uop) (i : BitVec 64) : (s.setSeq u i).din = s.din := rfl
@[simp] theorem State.setSeq_dout (s : State) (u : Uop) (i : BitVec 64) : (s.setSeq u i).dout = s.dout := rfl
@[simp] theorem State.setSeq_pending (s : State) (u : Uop) (i : BitVec 64) : (s.setSeq u i).pending = s.pending := rfl
@[simp] theorem State.setSeq_rdLog (s : State) (u : Uop) (i : BitVec 64) : (s.setSeq u i).rdLog = s.rdLog := rfl
@[simp] theorem State.setSeq_unitOut (s : State) (u : Uop) (i : BitVec 64) : (s.setSeq u i).unitOut = s.unitOut := rfl
@[simp] theorem State.setSeq_epoch (s : State) (u : Uop) (i : BitVec 64) : (s.setSeq u i).epoch = s.epoch := rfl
@[simp] theorem State.setSeq_maxNonceBytes (s : State) (u : Uop) (i : BitVec 64) : (s.setSeq u i).maxNonceBytes = s.maxNonceBytes := rfl

/-! ## `State.endCommand` -/

@[simp] theorem State.endCommand_key (s : State) : (s.endCommand).key = s.key := rfl
@[simp] theorem State.endCommand_h (s : State) : (s.endCommand).h = s.h := rfl
@[simp] theorem State.endCommand_j0 (s : State) : (s.endCommand).j0 = 0#128 := rfl
@[simp] theorem State.endCommand_cb (s : State) : (s.endCommand).cb = 0#128 := rfl
@[simp] theorem State.endCommand_ks (s : State) : (s.endCommand).ks = 0#128 := rfl
@[simp] theorem State.endCommand_sReg (s : State) : (s.endCommand).sReg = 0#128 := rfl
@[simp] theorem State.endCommand_ej0 (s : State) : (s.endCommand).ej0 = 0#128 := rfl
@[simp] theorem State.endCommand_tReg (s : State) : (s.endCommand).tReg = 0#128 := rfl
@[simp] theorem State.endCommand_tagin (s : State) : (s.endCommand).tagin = s.tagin := rfl
@[simp] theorem State.endCommand_tagout (s : State) : (s.endCommand).tagout = s.tagout := rfl
@[simp] theorem State.endCommand_diff (s : State) : (s.endCommand).diff = 0#8 := rfl
@[simp] theorem State.endCommand_keyValid (s : State) : (s.endCommand).keyValid = s.keyValid := rfl
@[simp] theorem State.endCommand_hValid (s : State) : (s.endCommand).hValid = s.hValid := rfl
@[simp] theorem State.endCommand_run (s : State) : (s.endCommand).run = false := rfl
@[simp] theorem State.endCommand_phase (s : State) : (s.endCommand).phase = 0#8 := rfl
@[simp] theorem State.endCommand_idx (s : State) : (s.endCommand).idx = 0#64 := rfl
@[simp] theorem State.endCommand_state (s : State) : (s.endCommand).state = s.state := rfl
@[simp] theorem State.endCommand_err (s : State) : (s.endCommand).err = s.err := rfl
@[simp] theorem State.endCommand_cause (s : State) : (s.endCommand).cause = s.cause := rfl
@[simp] theorem State.endCommand_cmd (s : State) : (s.endCommand).cmd = s.cmd := rfl
@[simp] theorem State.endCommand_nlen (s : State) : (s.endCommand).nlen = s.nlen := rfl
@[simp] theorem State.endCommand_alen (s : State) : (s.endCommand).alen = s.alen := rfl
@[simp] theorem State.endCommand_tlen (s : State) : (s.endCommand).tlen = s.tlen := rfl
@[simp] theorem State.endCommand_nonce (s : State) : (s.endCommand).nonce = s.nonce := rfl
@[simp] theorem State.endCommand_aad (s : State) : (s.endCommand).aad = s.aad := rfl
@[simp] theorem State.endCommand_din (s : State) : (s.endCommand).din = s.din := rfl
@[simp] theorem State.endCommand_dout (s : State) : (s.endCommand).dout = s.dout := rfl
@[simp] theorem State.endCommand_pending (s : State) : (s.endCommand).pending = s.pending := rfl
@[simp] theorem State.endCommand_rdLog (s : State) : (s.endCommand).rdLog = s.rdLog := rfl
@[simp] theorem State.endCommand_unitOut (s : State) : (s.endCommand).unitOut = s.unitOut := rfl
@[simp] theorem State.endCommand_epoch (s : State) : (s.endCommand).epoch = s.epoch := rfl
@[simp] theorem State.endCommand_maxNonceBytes (s : State) : (s.endCommand).maxNonceBytes = s.maxNonceBytes := rfl

/-! ## `State.resetEvent` -/

@[simp] theorem State.resetEvent_key (s : State) : (s.resetEvent).key = 0#128 := rfl
@[simp] theorem State.resetEvent_h (s : State) : (s.resetEvent).h = 0#128 := rfl
@[simp] theorem State.resetEvent_j0 (s : State) : (s.resetEvent).j0 = 0#128 := rfl
@[simp] theorem State.resetEvent_cb (s : State) : (s.resetEvent).cb = 0#128 := rfl
@[simp] theorem State.resetEvent_ks (s : State) : (s.resetEvent).ks = 0#128 := rfl
@[simp] theorem State.resetEvent_sReg (s : State) : (s.resetEvent).sReg = 0#128 := rfl
@[simp] theorem State.resetEvent_ej0 (s : State) : (s.resetEvent).ej0 = 0#128 := rfl
@[simp] theorem State.resetEvent_tReg (s : State) : (s.resetEvent).tReg = 0#128 := rfl
@[simp] theorem State.resetEvent_tagin (s : State) : (s.resetEvent).tagin = 0#128 := rfl
@[simp] theorem State.resetEvent_tagout (s : State) : (s.resetEvent).tagout = 0#128 := rfl
@[simp] theorem State.resetEvent_diff (s : State) : (s.resetEvent).diff = 0#8 := rfl
@[simp] theorem State.resetEvent_keyValid (s : State) : (s.resetEvent).keyValid = false := rfl
@[simp] theorem State.resetEvent_hValid (s : State) : (s.resetEvent).hValid = false := rfl
@[simp] theorem State.resetEvent_run (s : State) : (s.resetEvent).run = false := rfl
@[simp] theorem State.resetEvent_phase (s : State) : (s.resetEvent).phase = 0#8 := rfl
@[simp] theorem State.resetEvent_idx (s : State) : (s.resetEvent).idx = 0#64 := rfl
@[simp] theorem State.resetEvent_state (s : State) : (s.resetEvent).state = .idle := rfl
@[simp] theorem State.resetEvent_err (s : State) : (s.resetEvent).err = .none := rfl
@[simp] theorem State.resetEvent_cause (s : State) : (s.resetEvent).cause = .none := rfl
@[simp] theorem State.resetEvent_cmd (s : State) : (s.resetEvent).cmd = 0#32 := rfl
@[simp] theorem State.resetEvent_nlen (s : State) : (s.resetEvent).nlen = 0#64 := rfl
@[simp] theorem State.resetEvent_alen (s : State) : (s.resetEvent).alen = 0#64 := rfl
@[simp] theorem State.resetEvent_tlen (s : State) : (s.resetEvent).tlen = 0#64 := rfl
@[simp] theorem State.resetEvent_nonce (s : State) : (s.resetEvent).nonce = [] := rfl
@[simp] theorem State.resetEvent_aad (s : State) : (s.resetEvent).aad = [] := rfl
@[simp] theorem State.resetEvent_din (s : State) : (s.resetEvent).din = [] := rfl
@[simp] theorem State.resetEvent_dout (s : State) : (s.resetEvent).dout = [] := rfl
@[simp] theorem State.resetEvent_pending (s : State) : (s.resetEvent).pending = s.pending := rfl
@[simp] theorem State.resetEvent_rdLog (s : State) : (s.resetEvent).rdLog = s.rdLog := rfl
@[simp] theorem State.resetEvent_unitOut (s : State) : (s.resetEvent).unitOut = s.unitOut := rfl
@[simp] theorem State.resetEvent_epoch (s : State) : (s.resetEvent).epoch = s.epoch + 1 := rfl
@[simp] theorem State.resetEvent_maxNonceBytes (s : State) : (s.resetEvent).maxNonceBytes = s.maxNonceBytes := rfl

/-! ## `State.hold` -/

@[simp] theorem State.hold_key (s : State) (r : Request) : (s.hold r).key = s.key := rfl
@[simp] theorem State.hold_h (s : State) (r : Request) : (s.hold r).h = s.h := rfl
@[simp] theorem State.hold_j0 (s : State) (r : Request) : (s.hold r).j0 = s.j0 := rfl
@[simp] theorem State.hold_cb (s : State) (r : Request) : (s.hold r).cb = s.cb := rfl
@[simp] theorem State.hold_ks (s : State) (r : Request) : (s.hold r).ks = s.ks := rfl
@[simp] theorem State.hold_sReg (s : State) (r : Request) : (s.hold r).sReg = s.sReg := rfl
@[simp] theorem State.hold_ej0 (s : State) (r : Request) : (s.hold r).ej0 = s.ej0 := rfl
@[simp] theorem State.hold_tReg (s : State) (r : Request) : (s.hold r).tReg = s.tReg := rfl
@[simp] theorem State.hold_tagin (s : State) (r : Request) : (s.hold r).tagin = s.tagin := rfl
@[simp] theorem State.hold_tagout (s : State) (r : Request) : (s.hold r).tagout = s.tagout := rfl
@[simp] theorem State.hold_diff (s : State) (r : Request) : (s.hold r).diff = s.diff := rfl
@[simp] theorem State.hold_keyValid (s : State) (r : Request) : (s.hold r).keyValid = s.keyValid := rfl
@[simp] theorem State.hold_hValid (s : State) (r : Request) : (s.hold r).hValid = s.hValid := rfl
@[simp] theorem State.hold_run (s : State) (r : Request) : (s.hold r).run = s.run := rfl
@[simp] theorem State.hold_phase (s : State) (r : Request) : (s.hold r).phase = s.phase := rfl
@[simp] theorem State.hold_idx (s : State) (r : Request) : (s.hold r).idx = s.idx := rfl
@[simp] theorem State.hold_state (s : State) (r : Request) : (s.hold r).state = s.state := rfl
@[simp] theorem State.hold_err (s : State) (r : Request) : (s.hold r).err = s.err := rfl
@[simp] theorem State.hold_cause (s : State) (r : Request) : (s.hold r).cause = s.cause := rfl
@[simp] theorem State.hold_cmd (s : State) (r : Request) : (s.hold r).cmd = s.cmd := rfl
@[simp] theorem State.hold_nlen (s : State) (r : Request) : (s.hold r).nlen = s.nlen := rfl
@[simp] theorem State.hold_alen (s : State) (r : Request) : (s.hold r).alen = s.alen := rfl
@[simp] theorem State.hold_tlen (s : State) (r : Request) : (s.hold r).tlen = s.tlen := rfl
@[simp] theorem State.hold_nonce (s : State) (r : Request) : (s.hold r).nonce = s.nonce := rfl
@[simp] theorem State.hold_aad (s : State) (r : Request) : (s.hold r).aad = s.aad := rfl
@[simp] theorem State.hold_din (s : State) (r : Request) : (s.hold r).din = s.din := rfl
@[simp] theorem State.hold_dout (s : State) (r : Request) : (s.hold r).dout = s.dout := rfl
@[simp] theorem State.hold_pending (s : State) (r : Request) : (s.hold r).pending = s.pending ++ [r] := rfl
@[simp] theorem State.hold_rdLog (s : State) (r : Request) : (s.hold r).rdLog = s.rdLog := rfl
@[simp] theorem State.hold_unitOut (s : State) (r : Request) : (s.hold r).unitOut = s.unitOut := rfl
@[simp] theorem State.hold_epoch (s : State) (r : Request) : (s.hold r).epoch = s.epoch := rfl
@[simp] theorem State.hold_maxNonceBytes (s : State) (r : Request) : (s.hold r).maxNonceBytes = s.maxNonceBytes := rfl

/-! ## `State.answer` -/

@[simp] theorem State.answer_key (s : State) (v : Block) : (s.answer v).key = s.key := rfl
@[simp] theorem State.answer_h (s : State) (v : Block) : (s.answer v).h = s.h := rfl
@[simp] theorem State.answer_j0 (s : State) (v : Block) : (s.answer v).j0 = s.j0 := rfl
@[simp] theorem State.answer_cb (s : State) (v : Block) : (s.answer v).cb = s.cb := rfl
@[simp] theorem State.answer_ks (s : State) (v : Block) : (s.answer v).ks = s.ks := rfl
@[simp] theorem State.answer_sReg (s : State) (v : Block) : (s.answer v).sReg = s.sReg := rfl
@[simp] theorem State.answer_ej0 (s : State) (v : Block) : (s.answer v).ej0 = s.ej0 := rfl
@[simp] theorem State.answer_tReg (s : State) (v : Block) : (s.answer v).tReg = s.tReg := rfl
@[simp] theorem State.answer_tagin (s : State) (v : Block) : (s.answer v).tagin = s.tagin := rfl
@[simp] theorem State.answer_tagout (s : State) (v : Block) : (s.answer v).tagout = s.tagout := rfl
@[simp] theorem State.answer_diff (s : State) (v : Block) : (s.answer v).diff = s.diff := rfl
@[simp] theorem State.answer_keyValid (s : State) (v : Block) : (s.answer v).keyValid = s.keyValid := rfl
@[simp] theorem State.answer_hValid (s : State) (v : Block) : (s.answer v).hValid = s.hValid := rfl
@[simp] theorem State.answer_run (s : State) (v : Block) : (s.answer v).run = s.run := rfl
@[simp] theorem State.answer_phase (s : State) (v : Block) : (s.answer v).phase = s.phase := rfl
@[simp] theorem State.answer_idx (s : State) (v : Block) : (s.answer v).idx = s.idx := rfl
@[simp] theorem State.answer_state (s : State) (v : Block) : (s.answer v).state = s.state := rfl
@[simp] theorem State.answer_err (s : State) (v : Block) : (s.answer v).err = s.err := rfl
@[simp] theorem State.answer_cause (s : State) (v : Block) : (s.answer v).cause = s.cause := rfl
@[simp] theorem State.answer_cmd (s : State) (v : Block) : (s.answer v).cmd = s.cmd := rfl
@[simp] theorem State.answer_nlen (s : State) (v : Block) : (s.answer v).nlen = s.nlen := rfl
@[simp] theorem State.answer_alen (s : State) (v : Block) : (s.answer v).alen = s.alen := rfl
@[simp] theorem State.answer_tlen (s : State) (v : Block) : (s.answer v).tlen = s.tlen := rfl
@[simp] theorem State.answer_nonce (s : State) (v : Block) : (s.answer v).nonce = s.nonce := rfl
@[simp] theorem State.answer_aad (s : State) (v : Block) : (s.answer v).aad = s.aad := rfl
@[simp] theorem State.answer_din (s : State) (v : Block) : (s.answer v).din = s.din := rfl
@[simp] theorem State.answer_dout (s : State) (v : Block) : (s.answer v).dout = s.dout := rfl
@[simp] theorem State.answer_pending (s : State) (v : Block) : (s.answer v).pending = s.pending := rfl
@[simp] theorem State.answer_rdLog (s : State) (v : Block) : (s.answer v).rdLog = v :: s.rdLog := rfl
@[simp] theorem State.answer_unitOut (s : State) (v : Block) : (s.answer v).unitOut = s.unitOut := rfl
@[simp] theorem State.answer_epoch (s : State) (v : Block) : (s.answer v).epoch = s.epoch := rfl
@[simp] theorem State.answer_maxNonceBytes (s : State) (v : Block) : (s.answer v).maxNonceBytes = s.maxNonceBytes := rfl

/-! ## `State.takeReset` -/

@[simp] theorem State.takeReset_key (s : State) : (s.takeReset).key = s.key := rfl
@[simp] theorem State.takeReset_h (s : State) : (s.takeReset).h = s.h := rfl
@[simp] theorem State.takeReset_j0 (s : State) : (s.takeReset).j0 = s.j0 := rfl
@[simp] theorem State.takeReset_cb (s : State) : (s.takeReset).cb = s.cb := rfl
@[simp] theorem State.takeReset_ks (s : State) : (s.takeReset).ks = s.ks := rfl
@[simp] theorem State.takeReset_sReg (s : State) : (s.takeReset).sReg = s.sReg := rfl
@[simp] theorem State.takeReset_ej0 (s : State) : (s.takeReset).ej0 = s.ej0 := rfl
@[simp] theorem State.takeReset_tReg (s : State) : (s.takeReset).tReg = s.tReg := rfl
@[simp] theorem State.takeReset_tagin (s : State) : (s.takeReset).tagin = s.tagin := rfl
@[simp] theorem State.takeReset_tagout (s : State) : (s.takeReset).tagout = s.tagout := rfl
@[simp] theorem State.takeReset_diff (s : State) : (s.takeReset).diff = s.diff := rfl
@[simp] theorem State.takeReset_keyValid (s : State) : (s.takeReset).keyValid = s.keyValid := rfl
@[simp] theorem State.takeReset_hValid (s : State) : (s.takeReset).hValid = s.hValid := rfl
@[simp] theorem State.takeReset_run (s : State) : (s.takeReset).run = s.run := rfl
@[simp] theorem State.takeReset_phase (s : State) : (s.takeReset).phase = s.phase := rfl
@[simp] theorem State.takeReset_idx (s : State) : (s.takeReset).idx = s.idx := rfl
@[simp] theorem State.takeReset_state (s : State) : (s.takeReset).state = s.state := rfl
@[simp] theorem State.takeReset_err (s : State) : (s.takeReset).err = s.err := rfl
@[simp] theorem State.takeReset_cause (s : State) : (s.takeReset).cause = s.cause := rfl
@[simp] theorem State.takeReset_cmd (s : State) : (s.takeReset).cmd = s.cmd := rfl
@[simp] theorem State.takeReset_nlen (s : State) : (s.takeReset).nlen = s.nlen := rfl
@[simp] theorem State.takeReset_alen (s : State) : (s.takeReset).alen = s.alen := rfl
@[simp] theorem State.takeReset_tlen (s : State) : (s.takeReset).tlen = s.tlen := rfl
@[simp] theorem State.takeReset_nonce (s : State) : (s.takeReset).nonce = s.nonce := rfl
@[simp] theorem State.takeReset_aad (s : State) : (s.takeReset).aad = s.aad := rfl
@[simp] theorem State.takeReset_din (s : State) : (s.takeReset).din = s.din := rfl
@[simp] theorem State.takeReset_dout (s : State) : (s.takeReset).dout = s.dout := rfl
@[simp] theorem State.takeReset_pending (s : State) : (s.takeReset).pending = s.pending.erase .reset := rfl
@[simp] theorem State.takeReset_rdLog (s : State) : (s.takeReset).rdLog = s.rdLog := rfl
@[simp] theorem State.takeReset_unitOut (s : State) : (s.takeReset).unitOut = s.unitOut := rfl
@[simp] theorem State.takeReset_epoch (s : State) : (s.takeReset).epoch = s.epoch := rfl
@[simp] theorem State.takeReset_maxNonceBytes (s : State) : (s.takeReset).maxNonceBytes = s.maxNonceBytes := rfl

/-! ## `State.writeKey` -/

@[simp] theorem State.writeKey_key (s : State) (v : Block) : (s.writeKey v).key = v := rfl
@[simp] theorem State.writeKey_h (s : State) (v : Block) : (s.writeKey v).h = 0#128 := rfl
@[simp] theorem State.writeKey_j0 (s : State) (v : Block) : (s.writeKey v).j0 = s.j0 := rfl
@[simp] theorem State.writeKey_cb (s : State) (v : Block) : (s.writeKey v).cb = s.cb := rfl
@[simp] theorem State.writeKey_ks (s : State) (v : Block) : (s.writeKey v).ks = s.ks := rfl
@[simp] theorem State.writeKey_sReg (s : State) (v : Block) : (s.writeKey v).sReg = s.sReg := rfl
@[simp] theorem State.writeKey_ej0 (s : State) (v : Block) : (s.writeKey v).ej0 = s.ej0 := rfl
@[simp] theorem State.writeKey_tReg (s : State) (v : Block) : (s.writeKey v).tReg = s.tReg := rfl
@[simp] theorem State.writeKey_tagin (s : State) (v : Block) : (s.writeKey v).tagin = s.tagin := rfl
@[simp] theorem State.writeKey_tagout (s : State) (v : Block) : (s.writeKey v).tagout = s.tagout := rfl
@[simp] theorem State.writeKey_diff (s : State) (v : Block) : (s.writeKey v).diff = s.diff := rfl
@[simp] theorem State.writeKey_keyValid (s : State) (v : Block) : (s.writeKey v).keyValid = true := rfl
@[simp] theorem State.writeKey_hValid (s : State) (v : Block) : (s.writeKey v).hValid = false := rfl
@[simp] theorem State.writeKey_run (s : State) (v : Block) : (s.writeKey v).run = s.run := rfl
@[simp] theorem State.writeKey_phase (s : State) (v : Block) : (s.writeKey v).phase = s.phase := rfl
@[simp] theorem State.writeKey_idx (s : State) (v : Block) : (s.writeKey v).idx = s.idx := rfl
@[simp] theorem State.writeKey_state (s : State) (v : Block) : (s.writeKey v).state = s.state := rfl
@[simp] theorem State.writeKey_err (s : State) (v : Block) : (s.writeKey v).err = s.err := rfl
@[simp] theorem State.writeKey_cause (s : State) (v : Block) : (s.writeKey v).cause = s.cause := rfl
@[simp] theorem State.writeKey_cmd (s : State) (v : Block) : (s.writeKey v).cmd = s.cmd := rfl
@[simp] theorem State.writeKey_nlen (s : State) (v : Block) : (s.writeKey v).nlen = s.nlen := rfl
@[simp] theorem State.writeKey_alen (s : State) (v : Block) : (s.writeKey v).alen = s.alen := rfl
@[simp] theorem State.writeKey_tlen (s : State) (v : Block) : (s.writeKey v).tlen = s.tlen := rfl
@[simp] theorem State.writeKey_nonce (s : State) (v : Block) : (s.writeKey v).nonce = s.nonce := rfl
@[simp] theorem State.writeKey_aad (s : State) (v : Block) : (s.writeKey v).aad = s.aad := rfl
@[simp] theorem State.writeKey_din (s : State) (v : Block) : (s.writeKey v).din = s.din := rfl
@[simp] theorem State.writeKey_dout (s : State) (v : Block) : (s.writeKey v).dout = s.dout := rfl
@[simp] theorem State.writeKey_pending (s : State) (v : Block) : (s.writeKey v).pending = s.pending := rfl
@[simp] theorem State.writeKey_rdLog (s : State) (v : Block) : (s.writeKey v).rdLog = s.rdLog := rfl
@[simp] theorem State.writeKey_unitOut (s : State) (v : Block) : (s.writeKey v).unitOut = s.unitOut := rfl
@[simp] theorem State.writeKey_epoch (s : State) (v : Block) : (s.writeKey v).epoch = s.epoch := rfl
@[simp] theorem State.writeKey_maxNonceBytes (s : State) (v : Block) : (s.writeKey v).maxNonceBytes = s.maxNonceBytes := rfl

/-! ## `State.withPending` -/

@[simp] theorem State.withPending_key (s : State) (rs : List Request) : (s.withPending rs).key = s.key := rfl
@[simp] theorem State.withPending_h (s : State) (rs : List Request) : (s.withPending rs).h = s.h := rfl
@[simp] theorem State.withPending_j0 (s : State) (rs : List Request) : (s.withPending rs).j0 = s.j0 := rfl
@[simp] theorem State.withPending_cb (s : State) (rs : List Request) : (s.withPending rs).cb = s.cb := rfl
@[simp] theorem State.withPending_ks (s : State) (rs : List Request) : (s.withPending rs).ks = s.ks := rfl
@[simp] theorem State.withPending_sReg (s : State) (rs : List Request) : (s.withPending rs).sReg = s.sReg := rfl
@[simp] theorem State.withPending_ej0 (s : State) (rs : List Request) : (s.withPending rs).ej0 = s.ej0 := rfl
@[simp] theorem State.withPending_tReg (s : State) (rs : List Request) : (s.withPending rs).tReg = s.tReg := rfl
@[simp] theorem State.withPending_tagin (s : State) (rs : List Request) : (s.withPending rs).tagin = s.tagin := rfl
@[simp] theorem State.withPending_tagout (s : State) (rs : List Request) : (s.withPending rs).tagout = s.tagout := rfl
@[simp] theorem State.withPending_diff (s : State) (rs : List Request) : (s.withPending rs).diff = s.diff := rfl
@[simp] theorem State.withPending_keyValid (s : State) (rs : List Request) : (s.withPending rs).keyValid = s.keyValid := rfl
@[simp] theorem State.withPending_hValid (s : State) (rs : List Request) : (s.withPending rs).hValid = s.hValid := rfl
@[simp] theorem State.withPending_run (s : State) (rs : List Request) : (s.withPending rs).run = s.run := rfl
@[simp] theorem State.withPending_phase (s : State) (rs : List Request) : (s.withPending rs).phase = s.phase := rfl
@[simp] theorem State.withPending_idx (s : State) (rs : List Request) : (s.withPending rs).idx = s.idx := rfl
@[simp] theorem State.withPending_state (s : State) (rs : List Request) : (s.withPending rs).state = s.state := rfl
@[simp] theorem State.withPending_err (s : State) (rs : List Request) : (s.withPending rs).err = s.err := rfl
@[simp] theorem State.withPending_cause (s : State) (rs : List Request) : (s.withPending rs).cause = s.cause := rfl
@[simp] theorem State.withPending_cmd (s : State) (rs : List Request) : (s.withPending rs).cmd = s.cmd := rfl
@[simp] theorem State.withPending_nlen (s : State) (rs : List Request) : (s.withPending rs).nlen = s.nlen := rfl
@[simp] theorem State.withPending_alen (s : State) (rs : List Request) : (s.withPending rs).alen = s.alen := rfl
@[simp] theorem State.withPending_tlen (s : State) (rs : List Request) : (s.withPending rs).tlen = s.tlen := rfl
@[simp] theorem State.withPending_nonce (s : State) (rs : List Request) : (s.withPending rs).nonce = s.nonce := rfl
@[simp] theorem State.withPending_aad (s : State) (rs : List Request) : (s.withPending rs).aad = s.aad := rfl
@[simp] theorem State.withPending_din (s : State) (rs : List Request) : (s.withPending rs).din = s.din := rfl
@[simp] theorem State.withPending_dout (s : State) (rs : List Request) : (s.withPending rs).dout = s.dout := rfl
@[simp] theorem State.withPending_pending (s : State) (rs : List Request) : (s.withPending rs).pending = rs := rfl
@[simp] theorem State.withPending_rdLog (s : State) (rs : List Request) : (s.withPending rs).rdLog = s.rdLog := rfl
@[simp] theorem State.withPending_unitOut (s : State) (rs : List Request) : (s.withPending rs).unitOut = s.unitOut := rfl
@[simp] theorem State.withPending_epoch (s : State) (rs : List Request) : (s.withPending rs).epoch = s.epoch := rfl
@[simp] theorem State.withPending_maxNonceBytes (s : State) (rs : List Request) : (s.withPending rs).maxNonceBytes = s.maxNonceBytes := rfl

/-! ## `State.hostWriteByte` -/

@[simp] theorem State.hostWriteByte_key (s : State) (sp : Space) (off : Nat) (b : Byte) :
    (s.hostWriteByte sp off b).key = s.key := by cases sp <;> rfl
@[simp] theorem State.hostWriteByte_h (s : State) (sp : Space) (off : Nat) (b : Byte) :
    (s.hostWriteByte sp off b).h = s.h := by cases sp <;> rfl
@[simp] theorem State.hostWriteByte_j0 (s : State) (sp : Space) (off : Nat) (b : Byte) :
    (s.hostWriteByte sp off b).j0 = s.j0 := by cases sp <;> rfl
@[simp] theorem State.hostWriteByte_cb (s : State) (sp : Space) (off : Nat) (b : Byte) :
    (s.hostWriteByte sp off b).cb = s.cb := by cases sp <;> rfl
@[simp] theorem State.hostWriteByte_ks (s : State) (sp : Space) (off : Nat) (b : Byte) :
    (s.hostWriteByte sp off b).ks = s.ks := by cases sp <;> rfl
@[simp] theorem State.hostWriteByte_sReg (s : State) (sp : Space) (off : Nat) (b : Byte) :
    (s.hostWriteByte sp off b).sReg = s.sReg := by cases sp <;> rfl
@[simp] theorem State.hostWriteByte_ej0 (s : State) (sp : Space) (off : Nat) (b : Byte) :
    (s.hostWriteByte sp off b).ej0 = s.ej0 := by cases sp <;> rfl
@[simp] theorem State.hostWriteByte_tReg (s : State) (sp : Space) (off : Nat) (b : Byte) :
    (s.hostWriteByte sp off b).tReg = s.tReg := by cases sp <;> rfl
@[simp] theorem State.hostWriteByte_tagin (s : State) (sp : Space) (off : Nat) (b : Byte) :
    (s.hostWriteByte sp off b).tagin = s.tagin := by cases sp <;> rfl
@[simp] theorem State.hostWriteByte_tagout (s : State) (sp : Space) (off : Nat) (b : Byte) :
    (s.hostWriteByte sp off b).tagout = s.tagout := by cases sp <;> rfl
@[simp] theorem State.hostWriteByte_diff (s : State) (sp : Space) (off : Nat) (b : Byte) :
    (s.hostWriteByte sp off b).diff = s.diff := by cases sp <;> rfl
@[simp] theorem State.hostWriteByte_keyValid (s : State) (sp : Space) (off : Nat) (b : Byte) :
    (s.hostWriteByte sp off b).keyValid = s.keyValid := by cases sp <;> rfl
@[simp] theorem State.hostWriteByte_hValid (s : State) (sp : Space) (off : Nat) (b : Byte) :
    (s.hostWriteByte sp off b).hValid = s.hValid := by cases sp <;> rfl
@[simp] theorem State.hostWriteByte_run (s : State) (sp : Space) (off : Nat) (b : Byte) :
    (s.hostWriteByte sp off b).run = s.run := by cases sp <;> rfl
@[simp] theorem State.hostWriteByte_phase (s : State) (sp : Space) (off : Nat) (b : Byte) :
    (s.hostWriteByte sp off b).phase = s.phase := by cases sp <;> rfl
@[simp] theorem State.hostWriteByte_idx (s : State) (sp : Space) (off : Nat) (b : Byte) :
    (s.hostWriteByte sp off b).idx = s.idx := by cases sp <;> rfl
@[simp] theorem State.hostWriteByte_state (s : State) (sp : Space) (off : Nat) (b : Byte) :
    (s.hostWriteByte sp off b).state = s.state := by cases sp <;> rfl
@[simp] theorem State.hostWriteByte_err (s : State) (sp : Space) (off : Nat) (b : Byte) :
    (s.hostWriteByte sp off b).err = s.err := by cases sp <;> rfl
@[simp] theorem State.hostWriteByte_cause (s : State) (sp : Space) (off : Nat) (b : Byte) :
    (s.hostWriteByte sp off b).cause = s.cause := by cases sp <;> rfl
@[simp] theorem State.hostWriteByte_cmd (s : State) (sp : Space) (off : Nat) (b : Byte) :
    (s.hostWriteByte sp off b).cmd = s.cmd := by cases sp <;> rfl
@[simp] theorem State.hostWriteByte_nlen (s : State) (sp : Space) (off : Nat) (b : Byte) :
    (s.hostWriteByte sp off b).nlen = s.nlen := by cases sp <;> rfl
@[simp] theorem State.hostWriteByte_alen (s : State) (sp : Space) (off : Nat) (b : Byte) :
    (s.hostWriteByte sp off b).alen = s.alen := by cases sp <;> rfl
@[simp] theorem State.hostWriteByte_tlen (s : State) (sp : Space) (off : Nat) (b : Byte) :
    (s.hostWriteByte sp off b).tlen = s.tlen := by cases sp <;> rfl
@[simp] theorem State.hostWriteByte_dout (s : State) (sp : Space) (off : Nat) (b : Byte) :
    (s.hostWriteByte sp off b).dout = s.dout := by cases sp <;> rfl
@[simp] theorem State.hostWriteByte_pending (s : State) (sp : Space) (off : Nat) (b : Byte) :
    (s.hostWriteByte sp off b).pending = s.pending := by cases sp <;> rfl
@[simp] theorem State.hostWriteByte_rdLog (s : State) (sp : Space) (off : Nat) (b : Byte) :
    (s.hostWriteByte sp off b).rdLog = s.rdLog := by cases sp <;> rfl
@[simp] theorem State.hostWriteByte_unitOut (s : State) (sp : Space) (off : Nat) (b : Byte) :
    (s.hostWriteByte sp off b).unitOut = s.unitOut := by cases sp <;> rfl
@[simp] theorem State.hostWriteByte_epoch (s : State) (sp : Space) (off : Nat) (b : Byte) :
    (s.hostWriteByte sp off b).epoch = s.epoch := by cases sp <;> rfl
@[simp] theorem State.hostWriteByte_maxNonceBytes (s : State) (sp : Space) (off : Nat) (b : Byte) :
    (s.hostWriteByte sp off b).maxNonceBytes = s.maxNonceBytes := by cases sp <;> rfl

/-! ## `State.advance` changes the sequencer position only -/

@[simp] theorem State.advance_key (s : State) (u : Uop) (i : BitVec 64) : (s.advance u i).key = s.key := by
  unfold State.advance; split <;> rfl
@[simp] theorem State.advance_h (s : State) (u : Uop) (i : BitVec 64) : (s.advance u i).h = s.h := by
  unfold State.advance; split <;> rfl
@[simp] theorem State.advance_j0 (s : State) (u : Uop) (i : BitVec 64) : (s.advance u i).j0 = s.j0 := by
  unfold State.advance; split <;> rfl
@[simp] theorem State.advance_cb (s : State) (u : Uop) (i : BitVec 64) : (s.advance u i).cb = s.cb := by
  unfold State.advance; split <;> rfl
@[simp] theorem State.advance_ks (s : State) (u : Uop) (i : BitVec 64) : (s.advance u i).ks = s.ks := by
  unfold State.advance; split <;> rfl
@[simp] theorem State.advance_sReg (s : State) (u : Uop) (i : BitVec 64) : (s.advance u i).sReg = s.sReg := by
  unfold State.advance; split <;> rfl
@[simp] theorem State.advance_ej0 (s : State) (u : Uop) (i : BitVec 64) : (s.advance u i).ej0 = s.ej0 := by
  unfold State.advance; split <;> rfl
@[simp] theorem State.advance_tReg (s : State) (u : Uop) (i : BitVec 64) : (s.advance u i).tReg = s.tReg := by
  unfold State.advance; split <;> rfl
@[simp] theorem State.advance_tagin (s : State) (u : Uop) (i : BitVec 64) : (s.advance u i).tagin = s.tagin := by
  unfold State.advance; split <;> rfl
@[simp] theorem State.advance_tagout (s : State) (u : Uop) (i : BitVec 64) : (s.advance u i).tagout = s.tagout := by
  unfold State.advance; split <;> rfl
@[simp] theorem State.advance_diff (s : State) (u : Uop) (i : BitVec 64) : (s.advance u i).diff = s.diff := by
  unfold State.advance; split <;> rfl
@[simp] theorem State.advance_keyValid (s : State) (u : Uop) (i : BitVec 64) : (s.advance u i).keyValid = s.keyValid := by
  unfold State.advance; split <;> rfl
@[simp] theorem State.advance_hValid (s : State) (u : Uop) (i : BitVec 64) : (s.advance u i).hValid = s.hValid := by
  unfold State.advance; split <;> rfl
@[simp] theorem State.advance_run (s : State) (u : Uop) (i : BitVec 64) : (s.advance u i).run = s.run := by
  unfold State.advance; split <;> rfl
@[simp] theorem State.advance_state (s : State) (u : Uop) (i : BitVec 64) : (s.advance u i).state = s.state := by
  unfold State.advance; split <;> rfl
@[simp] theorem State.advance_err (s : State) (u : Uop) (i : BitVec 64) : (s.advance u i).err = s.err := by
  unfold State.advance; split <;> rfl
@[simp] theorem State.advance_cause (s : State) (u : Uop) (i : BitVec 64) : (s.advance u i).cause = s.cause := by
  unfold State.advance; split <;> rfl
@[simp] theorem State.advance_cmd (s : State) (u : Uop) (i : BitVec 64) : (s.advance u i).cmd = s.cmd := by
  unfold State.advance; split <;> rfl
@[simp] theorem State.advance_nlen (s : State) (u : Uop) (i : BitVec 64) : (s.advance u i).nlen = s.nlen := by
  unfold State.advance; split <;> rfl
@[simp] theorem State.advance_alen (s : State) (u : Uop) (i : BitVec 64) : (s.advance u i).alen = s.alen := by
  unfold State.advance; split <;> rfl
@[simp] theorem State.advance_tlen (s : State) (u : Uop) (i : BitVec 64) : (s.advance u i).tlen = s.tlen := by
  unfold State.advance; split <;> rfl
@[simp] theorem State.advance_nonce (s : State) (u : Uop) (i : BitVec 64) : (s.advance u i).nonce = s.nonce := by
  unfold State.advance; split <;> rfl
@[simp] theorem State.advance_aad (s : State) (u : Uop) (i : BitVec 64) : (s.advance u i).aad = s.aad := by
  unfold State.advance; split <;> rfl
@[simp] theorem State.advance_din (s : State) (u : Uop) (i : BitVec 64) : (s.advance u i).din = s.din := by
  unfold State.advance; split <;> rfl
@[simp] theorem State.advance_dout (s : State) (u : Uop) (i : BitVec 64) : (s.advance u i).dout = s.dout := by
  unfold State.advance; split <;> rfl
@[simp] theorem State.advance_pending (s : State) (u : Uop) (i : BitVec 64) : (s.advance u i).pending = s.pending := by
  unfold State.advance; split <;> rfl
@[simp] theorem State.advance_rdLog (s : State) (u : Uop) (i : BitVec 64) : (s.advance u i).rdLog = s.rdLog := by
  unfold State.advance; split <;> rfl
@[simp] theorem State.advance_unitOut (s : State) (u : Uop) (i : BitVec 64) : (s.advance u i).unitOut = s.unitOut := by
  unfold State.advance; split <;> rfl
@[simp] theorem State.advance_epoch (s : State) (u : Uop) (i : BitVec 64) : (s.advance u i).epoch = s.epoch := by
  unfold State.advance; split <;> rfl
@[simp] theorem State.advance_maxNonceBytes (s : State) (u : Uop) (i : BitVec 64) : (s.advance u i).maxNonceBytes = s.maxNonceBytes := by
  unfold State.advance; split <;> rfl

end Sys2Proof.Machine
end

