-- ==== Sys2Proof/Laws/Ops.lean ====
section
/-! SUPPORT. For each shared operation, what it can do, said once: buffers, byte access, packing and truncation, the
host hold, the launch, the sequencer and the step. -/

namespace Sys2Proof.Machine

open Sys2Proof

/-! ## One buffer -/

theorem memLookup_memInsert (m : Memory) (a : Nat) (b : Byte) (x : Nat) :
    memLookup (memInsert m a b) x = if x = a then some b else memLookup m x := by
  induction m with
  | nil => simp [memInsert, memLookup]
  | cons cell rest ih =>
    obtain ⟨a', b'⟩ := cell
    unfold memInsert
    split
    · simp [memLookup]
    · split
      · next _ h => subst h; by_cases hx : x = a <;> simp [memLookup, hx]
      · next h1 h2 =>
        simp only [memLookup, ih]
        by_cases hx : x = a'
        · subst hx; simp; omega
        · simp [hx]

theorem memLookup_memErase (m : Memory) (a x : Nat) :
    memLookup (memErase m a) x = if x = a then none else memLookup m x := by
  induction m with
  | nil => simp [memErase, memLookup]
  | cons cell rest ih =>
    obtain ⟨a', b'⟩ := cell
    unfold memErase at ih ⊢
    by_cases ha : a' = a
    · subst ha
      have hk : ((a' != a') = true) ↔ False := by simp
      rw [List.filter_cons_of_neg (by simp), ih]
      by_cases hx : x = a' <;> simp [memLookup, hx]
    · have hk : ((a' != a) = true) := by simpa using ha
      by_cases hx : x = a'
      · subst hx; simp [memLookup, ha]
      · simp [memLookup, hx, ih, hk]

/-- Read after write: the written offset reads as the byte, every other offset as before. -/
theorem memLookup_memWrite (dflt : Option Byte) (m : Memory) (a : Nat) (b : Byte) (x : Nat) :
    (memLookup (memWrite dflt m a b) x <|> dflt) = if x = a then some b else (memLookup m x <|> dflt) := by
  unfold memWrite
  split
  · next h =>
    rw [memLookup_memErase]
    split
    · rw [h]; rfl
    · rfl
  · rw [memLookup_memInsert]; split <;> rfl

theorem memLookup_memWrite_none (m : Memory) (a : Nat) (b : Byte) (x : Nat) :
    memLookup (memWrite none m a b) x = if x = a then some b else memLookup m x := by
  have h := memLookup_memWrite none m a b x
  simpa using h

theorem memLookup_memWrite_zero (m : Memory) (a : Nat) (b : Byte) (x : Nat) :
    (memLookup (memWrite (some 0#8) m a b) x).getD 0#8 = if x = a then b else (memLookup m x).getD 0#8 := by
  have h := congrArg (fun o => Option.getD o (0#8)) (memLookup_memWrite (some 0#8) m a b x)
  have hor : ∀ o : Option Byte, (o <|> some 0#8).getD 0#8 = o.getD 0#8 := by intro o; cases o <;> rfl
  simp only [hor] at h
  rw [h]; split
  · rfl
  · exact hor _

/-- Read after writing consecutive bytes to a buffer whose unlisted offsets read as zero. -/
theorem memLookup_memWriteBytes_zero (bs : List Byte) (m : Memory) (a x : Nat) :
    (memLookup (memWriteBytes (some 0#8) m a bs) x).getD 0#8 =
      if a ≤ x ∧ x < a + bs.length then bs.getD (x - a) 0#8 else (memLookup m x).getD 0#8 := by
  induction bs generalizing m a with
  | nil => rw [if_neg (by simp)]; rfl
  | cons b rest ih =>
    simp only [memWriteBytes, ih, memLookup_memWrite_zero, List.length_cons]
    by_cases hx : x = a
    · subst hx; simp
    · by_cases hin : a + 1 ≤ x ∧ x < a + 1 + rest.length
      · rw [if_pos hin, if_pos (by omega)]
        obtain ⟨k, rfl⟩ : ∃ k, x = a + 1 + k := ⟨x - (a + 1), by omega⟩
        rw [show a + 1 + k - a = k + 1 by omega, show a + 1 + k - (a + 1) = k by omega]
        simp
      · rw [if_neg hin, if_neg hx, if_neg (by omega)]

/-! ## The canonical form -/

/-- Offsets rising, as a relation between neighbours. -/
theorem memRising_cons_cons (a a' : Nat) (b b' : Byte) (rest : Memory) :
    memRising ((a, b) :: (a', b') :: rest) = true ↔ a < a' ∧ memRising ((a', b') :: rest) = true := by
  simp [memRising]

theorem memRising_tail {c : Host.Cell} {m : Memory} (h : memRising (c :: m) = true) : memRising m = true := by
  cases m with
  | nil => rfl
  | cons c' rest => exact ((memRising_cons_cons _ _ _ _ _).1 h).2

/-- In a rising buffer every listed offset is above the first. -/
theorem memRising_first_lt {c : Host.Cell} {m : Memory} (h : memRising (c :: m) = true) :
    ∀ d ∈ m, c.1 < d.1 := by
  induction m generalizing c with
  | nil => simp
  | cons c' rest ih =>
    intro d hd
    have h1 := (memRising_cons_cons _ _ _ _ _).1 h
    rcases List.mem_cons.1 hd with rfl | hd
    · exact h1.1
    · exact lt_trans h1.1 (ih h1.2 d hd)

theorem memRising_cons_of {c : Host.Cell} {m : Memory} (hm : memRising m = true)
    (h : ∀ d ∈ m, c.1 < d.1) : memRising (c :: m) = true := by
  cases m with
  | nil => rfl
  | cons c' rest => exact (memRising_cons_cons _ _ _ _ _).2 ⟨h c' (by simp), hm⟩

theorem mem_memInsert {m : Memory} {a : Nat} {b : Byte} {c : Host.Cell} (h : c ∈ memInsert m a b) :
    c = (a, b) ∨ c ∈ m := by
  induction m with
  | nil => simpa [memInsert] using h
  | cons cell rest ih =>
    obtain ⟨a', b'⟩ := cell
    unfold memInsert at h
    split at h
    · simpa using h
    · split at h
      · rcases List.mem_cons.1 h with h | h
        · exact .inl h
        · exact .inr (List.mem_cons_of_mem _ h)
      · rcases List.mem_cons.1 h with h | h
        · exact .inr (by simp [h])
        · rcases ih h with h | h
          · exact .inl h
          · exact .inr (List.mem_cons_of_mem _ h)

theorem memRising_memInsert {m : Memory} (a : Nat) (b : Byte) (h : memRising m = true) :
    memRising (memInsert m a b) = true := by
  induction m with
  | nil => rfl
  | cons cell rest ih =>
    obtain ⟨a', b'⟩ := cell
    unfold memInsert
    split
    · next hlt => exact (memRising_cons_cons _ _ _ _ _).2 ⟨hlt, h⟩
    · split
      · next _ heq => subst heq; exact memRising_cons_of (memRising_tail h) fun d hd => memRising_first_lt h d hd
      · next h1 h2 =>
        refine memRising_cons_of (ih (memRising_tail h)) fun d hd => ?_
        rcases mem_memInsert hd with rfl | hd
        · change a' < a; omega
        · exact memRising_first_lt h d hd

theorem memRising_filter {m : Memory} (p : Host.Cell → Bool) (h : memRising m = true) :
    memRising (m.filter p) = true := by
  induction m with
  | nil => rfl
  | cons c rest ih =>
    by_cases hp : p c = true
    · rw [List.filter_cons_of_pos hp]
      exact memRising_cons_of (ih (memRising_tail h))
        fun d hd => memRising_first_lt h d (List.mem_filter.1 hd).1
    · rw [List.filter_cons_of_neg hp]
      exact ih (memRising_tail h)

theorem Memory.wf_iff (dflt : Option Byte) (m : Memory) :
    Memory.wf dflt m = true ↔ memRising m = true ∧ ∀ c ∈ m, some c.2 ≠ dflt := by
  simp [Memory.wf]

/-- A write keeps the canonical form. -/
theorem Memory.wf_memWrite {dflt : Option Byte} {m : Memory} (a : Nat) (b : Byte) (h : Memory.wf dflt m = true) :
    Memory.wf dflt (memWrite dflt m a b) = true := by
  rw [Memory.wf_iff] at h ⊢
  unfold memWrite
  split
  · exact ⟨memRising_filter _ h.1, fun c hc => h.2 c (List.mem_filter.1 hc).1⟩
  · next hne =>
    refine ⟨memRising_memInsert a b h.1, fun c hc => ?_⟩
    rcases mem_memInsert hc with rfl | hc
    · exact hne
    · exact h.2 c hc

/-- Writing consecutive bytes keeps the canonical form. -/
theorem Memory.wf_memWriteBytes {dflt : Option Byte} (bs : List Byte) {m : Memory} (a : Nat)
    (h : Memory.wf dflt m = true) : Memory.wf dflt (memWriteBytes dflt m a bs) = true := by
  induction bs generalizing m a with
  | nil => exact h
  | cons b rest ih => exact ih (a + 1) (Memory.wf_memWrite a b h)

@[simp] theorem Memory.wf_nil (dflt : Option Byte) : Memory.wf dflt [] = true := rfl

/-! ## The buffers of a state -/

@[simp] theorem State.memRead_length (s : State) (sp : Space) (off n : Nat) : (s.memRead sp off n).length = n := by
  simp [State.memRead]

theorem State.memRead_getElem? (s : State) (sp : Space) (off n k : Nat) (hk : k < n) :
    (s.memRead sp off n)[k]? = some (s.readByte sp (off + k)) := by
  simp [State.memRead, hk]

theorem State.memRead_getD (s : State) (sp : Space) (off n k : Nat) :
    (s.memRead sp off n).getD k 0#8 = if k < n then s.readByte sp (off + k) else 0#8 := by
  rw [List.getD_eq_getElem?_getD]
  split
  · next h => rw [State.memRead_getElem? s sp off n k h]; rfl
  · next h => rw [List.getElem?_eq_none (by simpa using h)]; rfl

/-- DOUT after a MemWrite: the written bytes in order, every other byte as before. -/
theorem State.memWriteDout_doutByte (s : State) (off : Nat) (bs : List Byte) (x : Nat) :
    (s.memWriteDout off bs).doutByte x =
      if off ≤ x ∧ x < off + bs.length then bs.getD (x - off) 0#8 else s.doutByte x :=
  memLookup_memWriteBytes_zero bs s.dout off x

/-- A host write of an input byte: that byte, and no other byte of any input buffer. -/
theorem State.hostWriteByte_inByte (s : State) (sp sp' : InSpace) (off : Nat) (b : Byte) (x : Nat) :
    (s.hostWriteByte sp.toSpace off b).inByte sp' x = if sp' = sp ∧ x = off then b else s.inByte sp' x := by
  cases sp <;> cases sp' <;>
    simp [State.hostWriteByte, State.inByte, State.inBuffer, InSpace.toSpace, bufferDefault, memLookup_memWrite_none] <;>
    split <;> rfl

/-! ## Bytes of a Block -/

theorem byteAt_getLsbD (v : Block) (k j : Nat) (hj : j < 8) :
    (byteAt v k).getLsbD j = v.getLsbD (120 - 8 * k + j) := by
  simp [byteAt, hj]

@[simp] theorem bytesOfBlock_length (v : Block) : (bytesOfBlock v).length = 16 := by simp [bytesOfBlock]

theorem bytesOfBlock_getD (v : Block) (k : Nat) (hk : k < 16) : (bytesOfBlock v).getD k 0#8 = byteAt v k := by
  simp [bytesOfBlock, hk]

/-- The bits of packed bytes: byte `k` of an `n`-byte value lies at bits `8 (n - 1 - k)` and above. -/
theorem packBytes_getLsbD (n : Nat) (bs : List Byte) (i : Nat) (hi : i < 128) :
    (packBytes n bs).getLsbD i = (decide (i < 8 * n) && (bs.getD (n - 1 - i / 8) 0#8).getLsbD (i % 8)) := by
  induction n generalizing bs with
  | zero => simp [packBytes]
  | succ n ih =>
    cases bs with
    | nil => simp [packBytes]
    | cons b rest =>
      simp only [packBytes, BitVec.getLsbD_or, BitVec.getLsbD_shiftLeft, BitVec.getLsbD_setWidth, ih]
      by_cases h1 : i < 8 * n
      · have hd : n + 1 - 1 - i / 8 = (n - 1 - i / 8) + 1 := by omega
        have h2 : i < 8 * (n + 1) := by omega
        simp only [h1, h2, hd, List.getD_cons_succ]
        simp
      · by_cases h2 : i < 8 * (n + 1)
        · have hd : n + 1 - 1 - i / 8 = 0 := by omega
          have hm : i - 8 * n = i % 8 := by omega
          simp only [h1, h2, hd, hm, List.getD_cons_zero]
          have : i % 8 < 128 := by omega
          simp [hi, this]
        · have hb : ¬ i - 8 * n < 8 := by omega
          have : b.getLsbD (i - 8 * n) = false := BitVec.getLsbD_of_ge _ _ (by omega)
          simp [h1, h2, this]

/-- Byte `k` of a Block made of bytes: the `k`-th of them, or zero where there is none. -/
theorem byteAt_blockOfBytes (bs : List Byte) (k : Nat) (hk : k < 16) :
    byteAt (blockOfBytes bs) k = bs.getD k 0#8 := by
  apply BitVec.eq_of_getLsbD_eq
  intro j hj
  rw [byteAt_getLsbD _ _ _ hj, blockOfBytes, packBytes_getLsbD _ _ _ (by omega)]
  have h1 : (120 - 8 * k + j) / 8 = 15 - k := by omega
  have h2 : (120 - 8 * k + j) % 8 = j := by omega
  have h3 : 16 - 1 - (15 - k) = k := by omega
  have h4 : 120 - 8 * k + j < 8 * 16 := by omega
  rw [h1, h2, h3]
  simp [h4]

/-- A Block is determined by its sixteen bytes. -/
theorem block_eq_of_byteAt {v w : Block} (h : ∀ k, k < 16 → byteAt v k = byteAt w k) : v = w := by
  apply BitVec.eq_of_getLsbD_eq
  intro i hi
  have hk : 15 - i / 8 < 16 := by omega
  have hb := congrArg (fun b : Byte => b.getLsbD (i % 8)) (h _ hk)
  simp only [byteAt_getLsbD _ _ _ (Nat.mod_lt i (by decide : 0 < 8))] at hb
  have : 120 - 8 * (15 - i / 8) + i % 8 = i := by omega
  rwa [this] at hb

/-- Byte `k` of a padded block: the buffer's byte below the length, zero beyond it. -/
theorem State.padBlk_byteAt (s : State) (sp : Space) (len i k : Nat) (hk : k < 16) :
    byteAt (s.padBlk sp len i) k = if 16 * i + k < len then s.readByte sp (16 * i + k) else 0#8 := by
  rw [State.padBlk, byteAt_blockOfBytes _ _ hk, State.memRead_getD]
  have : k < blockBytes len i ↔ 16 * i + k < len := by unfold blockBytes; omega
  simp [this]

/-- Byte `k` of a truncated Block: kept below `t`, zero from `t` on. -/
theorem byteAt_trunc (v : Block) (t k : Nat) (hk : k < 16) :
    byteAt (trunc v t) k = if k < t then byteAt v k else 0#8 := by
  apply BitVec.eq_of_getLsbD_eq
  intro j hj
  rw [byteAt_getLsbD _ _ _ hj]
  simp only [trunc, BitVec.getLsbD_shiftLeft, BitVec.getLsbD_ushiftRight]
  split
  · have h1 : ¬ 120 - 8 * k + j < 128 - 8 * t := by omega
    have h2 : 128 - 8 * t + (120 - 8 * k + j - (128 - 8 * t)) = 120 - 8 * k + j := by omega
    have h3 : 120 - 8 * k + j < 128 := by omega
    rw [byteAt_getLsbD _ _ _ hj, h2]
    simp [h1, h3]
  · have h1 : 120 - 8 * k + j < 128 - 8 * t := by omega
    simp [h1]

/-! ## The host hold -/

theorem State.hostOp_idle {s : State} (h : s.run = false) (r : Request) (t : State) : s.hostOp r t = t := by
  simp [State.hostOp, h]

theorem State.hostOp_running {s : State} (h : s.run = true) (r : Request) (t : State) : s.hostOp r t = s.hold r := by
  simp [State.hostOp, h]

/-! ## The launch and the sequencer -/

theorem launch_refused {w : BitVec 32} {s : State} {c : Cause}
    (h : (s.beginLaunch w).invalidCause = some c) :
    launch w s = (s.beginLaunch w).takeException .invalidInput c := by
  simp [launch, h]

theorem launch_accepted {w : BitVec 32} {s : State}
    (h : (s.beginLaunch w).invalidCause = none) :
    launch w s = { (s.beginLaunch w).setSeq .deriveH 0#64 with run := true } := by
  simp [launch, h]

@[simp] theorem Uop.ofCode_code (u : Uop) : Uop.ofCode u.code = some u := by cases u <;> rfl

/-- The only PHASE values that name a micro-operation are the codes. -/
theorem Uop.ofCode_eq_some {c : Byte} {u : Uop} (h : Uop.ofCode c = some u) : c = u.code := by
  revert c u; decide

/-- The sequencer position after a micro-operation. -/
theorem State.advance_of_successor {s : State} {u v : Uop} {i j : BitVec 64} (h : s.successor u i = some (v, j)) :
    s.advance u i = s.setSeq v j := by
  simp [State.advance, h]

theorem State.advance_cleanup (s : State) (i : BitVec 64) : s.advance .cleanup i = s := rfl

theorem seqStep_of_ofCode {E : Block → Block → Block} {s : State} {u : Uop} (h : Uop.ofCode s.phase = some u) :
    seqStep E s = (uopEffect E u s).advance u s.idx := by
  simp [seqStep, h]

@[simp] theorem runSeq_zero (E : Block → Block → Block) (s : State) : runSeq E 0 s = s := rfl

theorem runSeq_succ_running {E : Block → Block → Block} {s : State} (h : s.run = true) (n : Nat) :
    runSeq E (n + 1) s = runSeq E n (seqStep E s) := by
  simp [runSeq, h]

@[simp] theorem runSeq_idle {E : Block → Block → Block} {s : State} (h : s.run = false) (n : Nat) :
    runSeq E n s = s := by
  cases n <;> simp [runSeq, h]

/-- The meaning of a sequenced instruction is its effect under the configured oracle. -/
theorem exec_toInstr (u : Uop) (s : State) : exec u.toInstr s = .next (uopEffect Config.E u s) := by
  cases u <;> rfl

/-! ## The step -/

/-- What a step can do: wait, reset, one sequencer step, or one issued operation. -/
theorem step_next_cases {s t : State} (h : step s = .next t) :
    (s.run = false ∧ s.pending = [] ∧ t = s) ∨
    (s.run = true ∧ s.resetArrived = true ∧ t = s.takeReset.resetEvent) ∨
    (s.run = true ∧ s.resetArrived = false ∧ (∃ u, Uop.ofCode s.phase = some u) ∧ t = seqStep Config.E s) ∨
    (s.run = false ∧ ∃ r rest i, s.pending = r :: rest ∧ requestInstr r = some i ∧
      exec i (s.withPending rest) = .next t) := by
  unfold step fetch at h
  cases hr : s.run with
  | true =>
    cases ha : s.resetArrived with
    | true =>
      simp only [hr, ha, if_true, exec, execReset, Host.Outcome.next.injEq] at h
      exact .inr (.inl ⟨rfl, rfl, h.symm⟩)
    | false =>
      cases hc : Uop.ofCode s.phase with
      | none => simp [hr, ha, decode, decodePhase, hc] at h
      | some u =>
        refine .inr (.inr (.inl ⟨rfl, rfl, ⟨u, rfl⟩, ?_⟩))
        simp only [hr, ha, decode, decodePhase, hc, if_true, Bool.false_eq_true, if_false] at h
        rw [exec_toInstr] at h
        simp only [advanceFrom, hc, Host.Outcome.next.injEq] at h
        rw [seqStep_of_ofCode hc, h]
  | false =>
    cases hp : s.pending with
    | nil => simp [hr, hp] at h; exact .inl ⟨rfl, rfl, h.symm⟩
    | cons r rest =>
      refine .inr (.inr (.inr ⟨rfl, r, rest, ?_⟩))
      cases hi : requestInstr r with
      | none => simp [hr, hp, hi] at h
      | some i =>
        refine ⟨i, rfl, rfl, ?_⟩
        simpa [hr, hp, hi] using h

/-- Every instruction has a meaning that answers a next state. -/
theorem exec_answers_next (i : Instr) (s : State) : ∃ t, exec i s = .next t := by
  cases i <;> exact ⟨_, rfl⟩

end Sys2Proof.Machine
end

