-- ==== Sys2Proof/Laws/PerInstr.lean ====
section
/-! SUPPORT. A statement made for every instruction: its code is of the format and has the fixed bits that
spec/opcode_table.json gives its row (30_encoding.md R60, R62, R66). -/

namespace Sys2Proof.Laws.EncodesInFormat

open Sys2Proof Sys2Proof.Machine

/-- The format column of spec/opcode_table.json with the row's fixed value: OP of a command word whose RSV is 0, the
code of a micro-operation or unit operation, the register number of a host write or read, or no number. -/
inductive Row where
  | cmd (op : Byte)
  | uop (code : Byte)
  | hostRead (reg : Nat)
  | hostWrite (reg : Nat)
  | hostNoRegister
deriving DecidableEq, Repr

/-- The row of each instruction. -/
def rowOf : Instr → Row
  | .sealCmd _ _ => .cmd 0x01#8
  | .openCmd _ _ => .cmd 0x02#8
  | .validate => .uop 0x01#8
  | .deriveH => .uop 0x02#8
  | .j096 => .uop 0x03#8
  | .nghInit => .uop 0x04#8
  | .nghAbsorb => .uop 0x05#8
  | .nghLen => .uop 0x06#8
  | .j0Take => .uop 0x07#8
  | .ctrInit => .uop 0x08#8
  | .ksBlock => .uop 0x09#8
  | .xorText => .uop 0x0A#8
  | .ghInit => .uop 0x0B#8
  | .ghAad => .uop 0x0C#8
  | .ghCt => .uop 0x0D#8
  | .ghLen => .uop 0x0E#8
  | .maskJ0 => .uop 0x0F#8
  | .tagForm => .uop 0x10#8
  | .tagEmit => .uop 0x11#8
  | .tagCmp => .uop 0x12#8
  | .release => .uop 0x13#8
  | .zeroize => .uop 0x14#8
  | .cleanup => .uop 0x15#8
  | .gfmul _ _ => .uop 0x20#8
  | .inc32 _ => .uop 0x21#8
  | .ecall _ => .uop 0x22#8
  | .rd reg => .hostRead reg
  | .rdKey => .hostRead 2
  | .wrKey _ => .hostWrite 2
  | .wrNlen _ => .hostWrite 3
  | .wrAlen _ => .hostWrite 4
  | .wrTlen _ => .hostWrite 5
  | .wrTagin _ => .hostWrite 6
  | .wrStatus _ => .hostWrite 1
  | .wrTagout reg _ => .hostWrite reg
  | .wrCmd _ => .hostWrite 0
  | .wrb _ _ _ => .hostNoRegister
  | .rdbIn _ _ => .hostNoRegister
  | .rdbDout _ => .hostNoRegister
  | .reset => .hostNoRegister

/-- A code is of a row: its format is the row's and it carries the row's fixed bits. -/
def fits : Code → Row → Prop
  | .request (.cmd w), .cmd op => w.toNat % 2 ^ 8 = op.toNat ∧ w.toNat / 2 ^ 24 = 0
  | .phase c, .uop code => c = code
  | .request (.invoke c _ _), .uop code => c = code
  | .request (.rd n), .hostRead reg => n = reg
  | .request (.wr n _), .hostWrite reg => n = reg
  | .request (.wrb _ _ _), .hostNoRegister => True
  | .request (.rdb _ _), .hostNoRegister => True
  | .request .reset, .hostNoRegister => True
  | _, _ => False

/-- The code of the instruction is of the row the table gives it. -/
def Statement (i : Instr) : Prop := fits (encode i) (rowOf i)

/-- The word of a command with RSV = 0: OP in its low byte, nothing above KLEN. -/
theorem cmdWord_fields (op tagbits klen : Byte) :
    (cmdWord op tagbits klen).toNat % 2 ^ 8 = op.toNat ∧ (cmdWord op tagbits klen).toNat / 2 ^ 24 = 0 := by
  have h1 := op.isLt
  have h2 := tagbits.isLt
  have h3 := klen.isLt
  have h : (cmdWord op tagbits klen).toNat = klen.toNat * 2 ^ 16 + tagbits.toNat * 2 ^ 8 + op.toNat := by
    simp only [cmdWord, BitVec.toNat_append, BitVec.toNat_ofNat, Nat.shiftLeft_eq]
    rw [Nat.zero_mod, Nat.zero_mul, Nat.zero_or, ← Nat.shiftLeft_eq, ← Nat.shiftLeft_eq,
      ← Nat.shiftLeft_add_eq_or_of_lt h2, ← Nat.shiftLeft_add_eq_or_of_lt h1, Nat.shiftLeft_eq, Nat.shiftLeft_eq]
    ring
  rw [h]
  omega

theorem sealCmd (tagbits klen : Byte) : Statement (.sealCmd tagbits klen) := cmdWord_fields _ _ _
theorem openCmd (tagbits klen : Byte) : Statement (.openCmd tagbits klen) := cmdWord_fields _ _ _
theorem validate : Statement (.validate) := rfl
theorem deriveH : Statement (.deriveH) := rfl
theorem j096 : Statement (.j096) := rfl
theorem nghInit : Statement (.nghInit) := rfl
theorem nghAbsorb : Statement (.nghAbsorb) := rfl
theorem nghLen : Statement (.nghLen) := rfl
theorem j0Take : Statement (.j0Take) := rfl
theorem ctrInit : Statement (.ctrInit) := rfl
theorem ksBlock : Statement (.ksBlock) := rfl
theorem xorText : Statement (.xorText) := rfl
theorem ghInit : Statement (.ghInit) := rfl
theorem ghAad : Statement (.ghAad) := rfl
theorem ghCt : Statement (.ghCt) := rfl
theorem ghLen : Statement (.ghLen) := rfl
theorem maskJ0 : Statement (.maskJ0) := rfl
theorem tagForm : Statement (.tagForm) := rfl
theorem tagEmit : Statement (.tagEmit) := rfl
theorem tagCmp : Statement (.tagCmp) := rfl
theorem release : Statement (.release) := rfl
theorem zeroize : Statement (.zeroize) := rfl
theorem cleanup : Statement (.cleanup) := rfl
theorem gfmul (a b : Block) : Statement (.gfmul a b) := rfl
theorem inc32 (v : Block) : Statement (.inc32 v) := rfl
theorem ecall (b : Block) : Statement (.ecall b) := rfl
theorem rd (reg : Nat) : Statement (.rd reg) := rfl
theorem rdKey : Statement (.rdKey) := rfl
theorem wrKey (v : Block) : Statement (.wrKey v) := rfl
theorem wrNlen (v : BitVec 64) : Statement (.wrNlen v) := rfl
theorem wrAlen (v : BitVec 64) : Statement (.wrAlen v) := rfl
theorem wrTlen (v : BitVec 64) : Statement (.wrTlen v) := rfl
theorem wrTagin (v : Block) : Statement (.wrTagin v) := rfl
theorem wrStatus (v : BitVec 32) : Statement (.wrStatus v) := rfl
theorem wrTagout (reg : Nat) (v : Block) : Statement (.wrTagout reg v) := rfl
theorem wrCmd (w : BitVec 32) : Statement (.wrCmd w) := rfl
theorem wrb (sp : Space) (off : BitVec 64) (b : Byte) : Statement (.wrb sp off b) := trivial
theorem rdbIn (sp : InSpace) (off : BitVec 64) : Statement (.rdbIn sp off) := trivial
theorem rdbDout (off : BitVec 64) : Statement (.rdbDout off) := trivial
theorem reset : Statement (.reset) := trivial

end Sys2Proof.Laws.EncodesInFormat
end

