-- ==== Sys2Proof/Tests/Slice0.lean ====
section
/-! SUPPORT. Tests: decoding of words written out from 30_encoding.md, refused terms, one step of each operation on the
values of 95_test_vectors.md, and for each obligation with hypotheses a state and operands that meet them. -/

namespace Sys2Proof.Tests

open Sys2Proof Sys2Proof.Machine

/-! ## Helpers -/

/-- The test-only oracle XORK of 95_test_vectors.md. -/
def xork (k b : Block) : Block := k ^^^ b

/-- The two values of AES-128 under the zero key that vector 2 needs beside H (95_test_vectors.md §1.1). -/
def aesZero (_ b : Block) : Block :=
  if b = 0#128 then 0x66e94bd4ef8a2c3b884cfa59ca342b2e#128
  else if b = 1#128 then 0x58e2fccefa7e3061367f1d57a4e7455a#128
  else 0x0388dace60b6a392f328c2b971b2fe78#128

/-- The key of the XORK vectors. -/
def keyK : Block := 0x000102030405060708090a0b0c0d0e0f#128

/-- Consecutive bytes as a buffer. -/
def cells (off : Nat) : List Byte → Memory
  | [] => []
  | b :: rest => (off, b) :: cells (off + 1) rest

/-- The state an operation answers, where it answers one. -/
def after : Host.Outcome State Fault Refusal → Option State
  | .next s => some s
  | .fault _ => none
  | .refused _ => none

/-- A key written and a 12-byte nonce length: the start of every row of 95_test_vectors.md §2.8. -/
def ready : State := { State.reset with key := keyK, keyValid := true, nlen := 12#64 }

/-- The state of program P2 of 95_test_vectors.md, with the inputs of X3. -/
def x3 : State :=
  { ready with
    cmd := 0x00106001#32, alen := 5#64, tlen := 19#64, h := keyK, hValid := true, run := true
    nonce := cells 0 [0x10#8, 0x11#8, 0x12#8, 0x13#8, 0x14#8, 0x15#8, 0x16#8, 0x17#8, 0x18#8, 0x19#8, 0x1a#8, 0x1b#8]
    aad := cells 0 [0xa0#8, 0xa1#8, 0xa2#8, 0xa3#8, 0xa4#8]
    din := cells 16 [0x21#8, 0x21#8, 0x21#8]
    j0 := 0x101112131415161718191a1b00000001#128 }

/-! ## Decoding: words written out from 30_encoding.md R60, R62, R66 -/

theorem test_decode_seal :
    decode (.request (.cmd 0b00000000_00010000_10000000_00000001#32)) = .ok (.sealCmd 128#8 16#8) := by decide

theorem test_decode_open :
    decode (.request (.cmd 0b00000000_00010000_01100000_00000010#32)) = .ok (.openCmd 96#8 16#8) := by decide

theorem test_decode_reserved_op :
    decode (.request (.cmd 0x00108003#32)) = .rejected (.reservedCommand 0x00108003#32) := by decide

theorem test_decode_reserved_rsv :
    decode (.request (.cmd 0x01108001#32)) = .rejected (.reservedCommand 0x01108001#32) := by decide

theorem test_decode_phases :
    [0b00000010#8, 0b00000011#8, 0b00000100#8, 0b00000101#8, 0b00000110#8, 0b00000111#8, 0b00001000#8].map
        (fun c => decode (.phase c)) =
      [.ok .deriveH, .ok .j096, .ok .nghInit, .ok .nghAbsorb, .ok .nghLen, .ok .j0Take, .ok .ctrInit] := by decide

theorem test_decode_phases_text_and_hash :
    [0b00001001#8, 0b00001010#8, 0b00001011#8, 0b00001100#8, 0b00001101#8, 0b00001110#8].map
        (fun c => decode (.phase c)) =
      [.ok .ksBlock, .ok .xorText, .ok .ghInit, .ok .ghAad, .ok .ghCt, .ok .ghLen] := by decide

theorem test_decode_phases_tag :
    [0b00001111#8, 0b00010000#8, 0b00010001#8, 0b00010010#8, 0b00010011#8, 0b00010100#8, 0b00010101#8].map
        (fun c => decode (.phase c)) =
      [.ok .maskJ0, .ok .tagForm, .ok .tagEmit, .ok .tagCmp, .ok .release, .ok .zeroize, .ok .cleanup] := by decide

theorem test_decode_phase_outside :
    [0x00#8, 0x01#8, 0x16#8, 0x20#8, 0xff#8].map (fun c => decode (.phase c)) =
      [.rejected (.notAPhase 0x00#8), .rejected (.notAPhase 0x01#8), .rejected (.notAPhase 0x16#8),
        .rejected (.notAPhase 0x20#8), .rejected (.notAPhase 0xff#8)] := by decide

theorem test_decode_invoked :
    decode (.request (.invoke 0b00000001#8 0#128 0#128)) = .ok .validate ∧
      decode (.request (.invoke 0b00100000#8 3#128 5#128)) = .ok (.gfmul 3#128 5#128) ∧
      decode (.request (.invoke 0b00100001#8 3#128 0#128)) = .ok (.inc32 3#128) ∧
      decode (.request (.invoke 0b00100010#8 3#128 0#128)) = .ok (.ecall 3#128) ∧
      decode (.request (.invoke 0x23#8 0#128 0#128)) = .rejected (.notInvocable 0x23#8) ∧
      decode (.request (.invoke 0x21#8 0#128 1#128)) = .rejected (.unusedInput 0x21#8) := by decide

theorem test_decode_register_reads :
    decode (.request (.rd 0)) = .ok (.rd 0) ∧ decode (.request (.rd 2)) = .ok .rdKey ∧
      decode (.request (.rd 8)) = .ok (.rd 8) := by decide

theorem test_decode_register_writes :
    decode (.request (.wr 0 0x00108001#128)) = .ok (.wrCmd 0x00108001#32) ∧
      decode (.request (.wr 1 0xffffffff#128)) = .ok (.wrStatus 0xffffffff#32) ∧
      decode (.request (.wr 2 7#128)) = .ok (.wrKey 7#128) ∧
      decode (.request (.wr 3 12#128)) = .ok (.wrNlen 12#64) ∧
      decode (.request (.wr 4 0xffffffffffffffff#128)) = .ok (.wrAlen 0xffffffffffffffff#64) ∧
      decode (.request (.wr 5 19#128)) = .ok (.wrTlen 19#64) ∧
      decode (.request (.wr 6 9#128)) = .ok (.wrTagin 9#128) ∧
      decode (.request (.wr 7 9#128)) = .ok (.wrTagout 7 9#128) ∧
      decode (.request (.wr 8 9#128)) = .ok (.wrTagout 8 9#128) := by decide

theorem test_decode_wide_values :
    decode (.request (.wr 0 0x100000000#128)) = .rejected (.valueTooWide 0) ∧
      decode (.request (.wr 5 0x10000000000000000#128)) = .rejected (.valueTooWide 5) := by decide

theorem test_decode_buffers :
    decode (.request (.wrb .dout 3#64 1#8)) = .ok (.wrb .dout 3#64 1#8) ∧
      decode (.request (.rdb .aad 3#64)) = .ok (.rdbIn .aad 3#64) ∧
      decode (.request (.rdb .dout 3#64)) = .ok (.rdbDout 3#64) ∧ decode (.request .reset) = .ok .reset := by decide

/-- Rows of spec/opcode_table.json by their bits; register number 0 is the byte 0x00 (assumption log 12). -/
theorem test_table_words :
    decodeTableWord 32 0x00000001 = some (.sealCmd 0#8 0#8) ∧ decodeTableWord 32 0x00108002 = some (.openCmd 128#8 16#8) ∧
      decodeTableWord 8 0x01 = some .validate ∧ decodeTableWord 8 0x02 = some .deriveH ∧
      decodeTableWord 8 0x15 = some .cleanup ∧ decodeTableWord 8 0x20 = some (.gfmul 0#128 0#128) ∧
      decodeTableWord 8 0x22 = some (.ecall 0#128) ∧ decodeTableWord 8 0x00 = some (.wrCmd 0#32) ∧
      decodeTableWord 8 0x16 = none := by decide

theorem test_cmd_word_seal_96 : cmdWord opSeal 96#8 16#8 = 0x00106001#32 := by decide

/-! ## Terms that are no operation -/

theorem test_rd_of_register_two_refused : (Instr.rd 2).wellFormed = false := by decide

theorem test_wr_tagout_below_seven_refused : (Instr.wrTagout 6 0#128).wellFormed = false := by decide

theorem test_wr_tagout_of_seven_accepted : (Instr.wrTagout 7 0#128).wellFormed = true := by decide

/-! ## Units: 95_test_vectors.md §2.1, §2.2, §2.3 -/

theorem test_mulx_reduces :
    mulx 0x66e94bd4ef8a2c3b884cfa59ca342b2f#128 = 0xd274a5ea77c5161dc4267d2ce51a1597#128 := by decide

theorem test_gfmul_general :
    gfmul 0x0123456789abcdeffedcba9876543210#128 0xdeadbeefcafebabe0011223344556677#128 =
      0xb27c79a32d7be83330940b1e7924a952#128 := by decide

theorem test_gfmul_reduction_all_ones :
    gfmul 0xffffffffffffffffffffffffffffffff#128 0xffffffffffffffffffffffffffffffff#128 =
      0xf402aaaaaaaaaaaaaaaaaaaaaaaaaaaa#128 := by decide +kernel

theorem test_inc32_wraps :
    (after (exec (.inc32 0x000000000000000000000001ffffffff#128) ready)).map (·.unitOut) =
      some 0x00000000000000000000000100000000#128 := by decide

theorem test_inc32_high_kept :
    inc32 0xcafebabefacedbaddecaf888fffffffe#128 = 0xcafebabefacedbaddecaf888ffffffff#128 := by decide

theorem test_ecall_under_key : ecall xork ready 0x0f#128 = 0x000102030405060708090a0b0c0d0e00#128 := by decide

/-! ## Keystream and J0: 95_test_vectors.md §2.5, §2.6, §3.1, §3.2 -/

theorem test_derive_h_xork : (deriveH xork ready).h = keyK ∧ (deriveH xork ready).hValid = true := by decide

theorem test_derive_h_cached : (deriveH xork { x3 with h := 5#128 }).h = 5#128 := by decide

theorem test_j0_96 :
    (after (exec .j096 x3)).map (·.j0) = some 0x101112131415161718191a1b00000001#128 := by decide

theorem test_ngh_init : (after (exec .nghInit { x3 with sReg := 9#128 })).map (·.sReg) = some 0#128 := by decide

/-- Program P5: the 16-byte nonce block. -/
theorem test_ngh_absorb :
    (nghAbsorb { ready with
        h := keyK, nlen := 16#64,
        nonce := cells 0 [0xc5#8, 0xf1#8, 0x4f#8, 0x2e#8, 0x5a#8, 0xe0#8, 0x49#8, 0x2a#8, 0x8b#8, 0xe0#8, 0x1f#8, 0xb2#8,
          0x32#8, 0xf2#8, 0xa4#8, 0x25#8] }).sReg = 0x2d1bd16e3069e402bb5301b003b6d15c#128 := by decide

/-- Program P5: the length block of the nonce hash. -/
theorem test_ngh_len :
    (nghLen { ready with h := keyK, nlen := 16#64, sReg := 0x2d1bd16e3069e402bb5301b003b6d15c#128 }).sReg =
      0x5555555555555555aaaaaaaafffffffe#128 := by decide

theorem test_j0_take :
    (after (exec .j0Take { x3 with sReg := 9#128 })).map (fun t => (t.j0, t.sReg)) = some (9#128, 0#128) := by decide

theorem test_ctr_init : (after (exec .ctrInit { x3 with j0 := 9#128 })).map (·.cb) = some 9#128 := by decide

theorem test_ks_block_increments_first :
    (ksBlock xork { x3 with cb := 0x101112131415161718191a1b00000001#128 }).ks =
      0x1010101010101010101010100c0d0e0d#128 := by decide

/-- Program P5: the counter wraps inside the message. -/
theorem test_ks_block_wraps :
    (ksBlock xork { x3 with cb := 0x5555555555555555aaaaaaaaffffffff#128 }).ks =
      0x5554575651505352a2a3a0a10c0d0e0f#128 := by decide

/-- Program P2, XOR_TEXT(1): three bytes 0x31 at offset 16. -/
theorem test_xor_text_short_block :
    (after (exec .xorText { x3 with idx := 1#64, ks := 0x1010101010101010101010100c0d0e0c#128 })).map (·.dout) =
      some [(16, 0x31#8), (17, 0x31#8), (18, 0x31#8)] := by decide

/-- A byte that becomes zero is not listed. -/
theorem test_xor_text_zero_byte :
    (after (exec .xorText { x3 with idx := 1#64, ks := 0x21000000000000000000000000000000#128 })).map (·.dout) =
      some [(17, 0x21#8), (18, 0x21#8)] := by decide

/-! ## Hash: 95_test_vectors.md §2.4, §3.1, §3.2 -/

theorem test_gh_init :
    (after (exec .ghInit { x3 with sReg := 9#128 })).map (fun t => (t.sReg, t.state)) =
      some (0#128, .keystreamApplied) := by decide

theorem test_gh_aad : (ghAad x3).sReg = 0xf37c98f672794783d22c7896f7430dc9#128 := by decide

/-- Program P2, GH_CT(1): SEAL reads the ciphertext in DOUT. -/
theorem test_gh_ct_seal :
    (ghCt { x3 with
        idx := 1#64, dout := cells 16 [0x31#8, 0x31#8, 0x31#8],
        sReg := 0xe64bcf73e514dbd4633a69b6cea96612#128 }).sReg = 0xeac79597cea4172c22c4b5e361830f4e#128 := by decide

/-- The same block of an OPEN is read from DIN. -/
theorem test_gh_ct_open :
    (ghCt { x3 with
        cmd := 0x00106002#32, idx := 1#64, din := cells 16 [0x31#8, 0x31#8, 0x31#8],
        sReg := 0xe64bcf73e514dbd4633a69b6cea96612#128 }).sReg = 0xeac79597cea4172c22c4b5e361830f4e#128 := by decide

theorem test_gh_len :
    (ghLen { x3 with sReg := 0xeac79597cea4172c22c4b5e361830f4e#128 }).sReg =
      0x4079547864aa0498c03652d8a11d5e85#128 := by decide

theorem test_len_blk_at_the_limit :
    lenBlk (2 ^ 36 - 32) (2 ^ 36 - 32) = 0x0000007fffffff000000007fffffff00#128 := by decide

/-! ## Tag: 95_test_vectors.md §2.7, §3.1, §3.2 -/

theorem test_mask_j0 : (maskJ0 aesZero { x3 with j0 := 1#128 }).ej0 = 0x58e2fccefa7e3061367f1d57a4e7455a#128 := by decide

theorem test_tag_form :
    (after (exec .tagForm { x3 with
        sReg := 0xf38cbb1ad69223dcc3457ae5b6b0f885#128, ej0 := 0x58e2fccefa7e3061367f1d57a4e7455a#128 })).map
      (fun t => (t.tReg, t.state)) = some (0xab6e47d42cec13bdf53a67b21257bddf#128, .tagComputed) := by decide

theorem test_tag_emit_96 :
    (after (exec .tagEmit { x3 with tReg := 0xab6e47d42cec13bdf53a67b21257bddf#128 })).map
      (fun t => (t.tagout, t.state)) = some (0xab6e47d42cec13bdf53a67b200000000#128, .sealed) := by decide

theorem test_tag_emit_128 :
    (after (exec .tagEmit { x3 with
        cmd := 0x00108001#32, tReg := 0xab6e47d42cec13bdf53a67b21257bddf#128 })).map (·.tagout) =
      some 0xab6e47d42cec13bdf53a67b21257bddf#128 := by decide

/-- Bytes 12 to 15 are ignored with a tag of 96 bits. -/
theorem test_tag_cmp_96 :
    (after (exec .tagCmp { x3 with
        tReg := 0xab6e47d42cec13bdf53a67b21257bddf#128, tagin := 0xab6e47d42cec13bdf53a67b200000000#128 })).map (·.diff) =
      some 0x00#8 := by decide

theorem test_tag_cmp_104 :
    (after (exec .tagCmp { x3 with
        cmd := 0x00106802#32, tReg := 0xab6e47d42cec13bdf53a67b21257bddf#128,
        tagin := 0xab6e47d42cec13bdf53a67b2ffffffff#128 })).map (·.diff) = some 0xed#8 := by decide

theorem test_release : (after (exec .release x3)).map (·.state) = some .opened := by decide

theorem test_zeroize :
    (after (exec .zeroize { x3 with dout := [(0, 0x48#8), (70000, 1#8)] })).map (fun t => (t.dout, t.status)) =
      some ([], 0x00030025#32) := by decide

theorem test_cleanup :
    (after (exec .cleanup { x3 with phase := 0x15#8, diff := 9#8, cb := 1#128 })).map
      (fun t => (t.run, t.phase, t.j0)) = some (false, 0x00#8, 0#128) := by decide

/-! ## VALIDATE and the launch: the rows of 95_test_vectors.md §2.8 -/

/-- STATUS after the launch of a command word. -/
def statusAfterLaunch (w : BitVec 32) (s : State) : BitVec 32 := (launch w s).status

/-- CAUSE after VALIDATE. -/
def causeOf (s : State) : Cause := (validate s).cause

theorem test_launch_refused_reserved_and_key :
    statusAfterLaunch 0x00108001#32 State.reset = 0x00000110#32 ∧
      statusAfterLaunch 0x00108003#32 ready = 0x00010610#32 ∧
      statusAfterLaunch 0x01108001#32 ready = 0x00010610#32 ∧
      statusAfterLaunch 0x00208001#32 ready = 0x00010110#32 ∧
      statusAfterLaunch 0x00200001#32 ready = 0x00010110#32 ∧
      statusAfterLaunch 0x00106401#32 ready = 0x00010310#32 := by decide

theorem test_launch_refused_lengths :
    statusAfterLaunch 0x00106401#32 { ready with nlen := 0#64 } = 0x00010210#32 ∧
      statusAfterLaunch 0x00108001#32 { ready with nlen := 0x2000000000000000#64 } = 0x00010710#32 ∧
      statusAfterLaunch 0x00108001#32 { ready with tlen := 68719476705#64, alen := 68719476705#64 } =
        0x00010410#32 ∧
      statusAfterLaunch 0x00108001#32 { ready with alen := 68719476705#64 } = 0x00010510#32 := by decide

theorem test_validate_tag_lengths :
    [95, 96, 100, 104, 112, 120, 128, 136].map (fun n : Nat =>
        causeOf { ready with cmd := cmdWord opOpen (BitVec.ofNat 8 n) 16#8 }) =
      [.tagLen, .none, .tagLen, .none, .none, .none, .none, .tagLen] := by decide

/-- The limits themselves are accepted. -/
theorem test_validate_limits_accepted :
    causeOf { ready with
      cmd := 0x00108001#32, tlen := 68719476704#64, alen := 68719476704#64, nlen := 0x1fffffffffffffff#64 } = .none := by
  decide

/-- MAX_NONCE_BYTES is OPEN with no least value (00_scope.md R5): with 8 a nonce of 12 bytes is refused and one of 8 is
not. -/
theorem test_small_nonce_buffer :
    (after (exec (.wrCmd 0x00108001#32) { ready with maxNonceBytes := 8 })).map (fun t => (t.status, t.run)) =
        some (0x00010710#32, false) ∧
      (after (exec (.wrCmd 0x00108001#32) { ready with maxNonceBytes := 8, nlen := 8#64 })).map
        (fun t => (t.status, t.run)) = some (0x00010000#32, true) := by decide

/-- A block with MAX_NONCE_BYTES = 0 accepts no nonce. -/
theorem test_no_nonce_buffer :
    causeOf { ready with cmd := 0x00108001#32, nlen := 1#64, maxNonceBytes := 0 } = .nonceTooLong ∧
      causeOf { ready with cmd := 0x00108001#32, nlen := 0#64, maxNonceBytes := 0 } = .nonceZero := by decide

/-- SEAL and OPEN with a key length of 32 are refused as a whole. -/
theorem test_seal_refused :
    (after (exec (.sealCmd 128#8 32#8) ready)).map (fun t => (t.status, t.cmd)) =
      some (0x00010110#32, 0x00208001#32) := by decide

theorem test_open_refused :
    (after (exec (.openCmd 128#8 32#8) { ready with state := .sealed, dout := [(0, 1#8)], tagout := 7#128 })).map
      (fun t => (t.status, t.dout, t.tagout)) = some (0x00010110#32, [], 0#128) := by decide

/-! ## Host operations: 95_test_vectors.md §2.9, §3.2, §3.6 -/

/-- STATUS 00030003, after a SEAL. -/
def afterSeal : State :=
  { ready with h := keyK, hValid := true, state := .sealed, tlen := 19#64, dout := [(0, 0x58#8), (18, 0x31#8)], tagout := 7#128 }

/-- The last value a host read returned. -/
def lastRead (o : Host.Outcome State Fault Refusal) : Option Block := (after o).bind (·.rdLog.head?)

theorem test_rd_status : lastRead (exec (.rd 1) afterSeal) = some 0x00030003#128 := by decide

theorem test_rd_high_number : lastRead (exec (.rd 8) afterSeal) = some 0#128 := by decide

theorem test_rd_key : lastRead (exec .rdKey afterSeal) = some 0#128 := by decide

theorem test_wr_key :
    (after (exec (.wrKey 0#128) afterSeal)).map (fun t => (t.status, t.h, t.tagout)) =
      some (0x00010003#32, 0#128, 7#128) := by decide

theorem test_wr_key_held_while_running :
    (after (exec (.wrKey 0#128) x3)).map (fun t => (t.key, t.pending)) = some (keyK, [.wr 2 0#128]) := by decide

theorem test_wr_nlen : (after (exec (.wrNlen 8#64) ready)).map (·.nlen) = some 8#64 := by decide

theorem test_wr_alen : (after (exec (.wrAlen 8#64) ready)).map (·.alen) = some 8#64 := by decide

theorem test_wr_tlen : (after (exec (.wrTlen 4#64) afterSeal)).map (·.tlen) = some 4#64 := by decide

theorem test_wr_tagin : (after (exec (.wrTagin 8#128) ready)).map (·.tagin) = some 8#128 := by decide

theorem test_wr_status : (after (exec (.wrStatus 0xffffffff#32) afterSeal)) = some afterSeal := by decide

theorem test_wr_tagout : (after (exec (.wrTagout 7 9#128) afterSeal)).map (·.tagout) = some 7#128 := by decide

theorem test_wr_cmd_starts :
    (fun t : State => (t.run, t.phase, t.status)) (launch 0x00108001#32 afterSeal) =
      (true, 0x02#8, 0x00030000#32) := by decide

theorem test_wrb_din : (after (exec (.wrb .din 18#64 0x31#8) x3.endCommand)).map (·.inByte .din 18) = some 0x31#8 := by
  decide

theorem test_wrb_dout_ignored : after (exec (.wrb .dout 0#64 1#8) afterSeal) = some afterSeal := by decide

theorem test_rdb_in : lastRead (exec (.rdbIn .aad 4#64) x3.endCommand) = some 0xa4#128 := by decide

theorem test_rdb_dout_gate :
    lastRead (exec (.rdbDout 18#64) afterSeal) = some 0x31#128 ∧ lastRead (exec (.rdbDout 19#64) afterSeal) = some 0#128 := by
  decide

theorem test_rdb_dout_gate_follows_tlen_and_state :
    lastRead (exec (.rdbDout 0#64) { afterSeal with tlen := 0#64 }) = some 0#128 ∧
      lastRead (exec (.rdbDout 0#64) { afterSeal with state := .tagComputed }) = some 0#128 := by decide

theorem test_reset_in_a_running_command :
    (after (exec .reset { x3 with dout := [(0, 0x48#8)] })).map (fun t => (t.status, t.tlen, t.dout)) =
      some (0x00000000#32, 0#64, []) := by decide

/-! ## Steps -/

theorem test_step_waits : after (step ready) = some ready := by decide

theorem test_step_runs_oldest_pending :
    (after (step { ready with pending := [.wr 5 19#128, .rd 1] })).map (fun t => (t.tlen, t.pending)) =
      some (19#64, [.rd 1]) := by decide

theorem test_step_runs_phase_and_moves_on :
    (after (step { x3 with phase := 0x08#8 })).map (fun t => (t.cb, t.phase)) =
      some (0x101112131415161718191a1b00000001#128, 0x09#8) := by decide

theorem test_step_last_text_block_goes_to_hash :
    (after (step { x3 with phase := 0x0A#8, idx := 1#64 })).map (fun t => (t.phase, t.idx)) = some (0x0B#8, 0#64) := by
  decide

/-- P6: a reset strikes a running command; what else was issued stays issued. -/
theorem test_step_reset_strikes :
    (after (step { x3 with phase := 0x09#8, pending := [.rd 1, .reset] })).map (fun t => (t.run, t.pending)) =
      some (false, [.rd 1]) := by decide

theorem test_step_reserved_command_is_refused_by_validate :
    (after (step { ready with pending := [.cmd 0x00108000#32] })).map State.status = some 0x00010610#32 := by decide

theorem test_step_malformed_request :
    step { ready with pending := [.invoke 0x23#8 0#128 0#128] } = .refused .malformedRequest := rfl

theorem test_step_phase_outside : step { x3 with phase := 0x16#8 } = .fault .phaseOutsideRange := rfl

theorem test_fetch_word_runs_next :
    fetch (State.reset.withFetchWord 8 0x0B) = .sequenced .ghInit ∧
      fetch (State.reset.withFetchWord 32 0x00108001) = .issued (.sealCmd 128#8 16#8) State.reset := by decide

/-! ## Host programs (30_encoding.md R69) -/

theorem test_seal_program_command :
    (sealProgram (List.replicate 16 0#8) [1#8] [2#8] [] 96).drop 1 =
      [.wrb .nonce 0#64 1#8, .wr 3 1#128, .wr 4 0#128, .wrb .din 0#64 2#8, .wr 5 1#128, .wr 0 0x00106001#128, .rd 1] := by
  decide

/-- The model's choice where the spec is silent (assumption log 23). -/
theorem test_wrb_line_goes_on_at_zero :
    wrbLine .din (2 ^ 64 - 1) [1#8, 2#8] = [.wrb .din 0xffffffffffffffff#64 1#8, .wrb .din 0#64 2#8] := by decide

theorem test_open_program_long_tag_left_out :
    openProgram [] [] [] (List.replicate 32 0#8) [] = [.wr 3 0#128, .wr 4 0#128, .wr 5 0#128, .wr 0 0x0000ff02#128, .rd 1] := by
  decide

/-! ## Witnesses: a state and operands that meet the hypotheses of each obligation that has some -/

/-- A running SEAL of one text block and one AAD block, about to do `u` in STATE `st`. -/
def running (u : Uop) (st : StateCode) : State :=
  { ready with
    cmd := 0x00108001#32, alen := 1#64, tlen := 16#64, h := Config.E keyK 0#128, hValid := true, run := true
    phase := u.code, state := st
    cb := inc32By 0#128 (if u = .xorText then 1 else 0)
    ks := Config.E keyK (inc32By 0#128 (if u = .xorText then 1 else 0)) }

theorem witness_validate_accepts_ready :
    State.invalidCause { ready with cmd := 0x00108001#32, alen := 1#64, tlen := 16#64 } = none := by decide

/-- Every sequencer position, in every STATE it can find, is met by a state that satisfies the invariant. -/
theorem witness_running_inv (u : Uop) (st : StateCode) (h : st ∈ statesAt u) : (running u st).Inv := by
  refine ⟨⟨rfl, rfl, rfl, rfl⟩, ?_, ?_, ?_, ?_, ⟨?_, ?_⟩, ⟨⟨?_, ?_⟩, ?_⟩, ?_, ?_, ?_, ?_, Nat.le_refl _⟩
  · show ∃ v, Uop.ofCode u.code = some v ∧ _
    exact ⟨u, Uop.ofCode_code u, by
      cases u <;> first
        | exact Nat.one_pos
        | exact (by decide : 0 < nblk (12#64).toNat)
        | exact (by decide : 0 < nblk (16#64).toNat)
        | exact (by decide : 0 < nblk (1#64).toNat)⟩
  · intro h; cases h
  · intro _; rfl
  · intro _ _; rfl
  · intro h; cases h
  · intro _; rfl
  · intro h; cases h
  · intro h; exact absurd rfl h
  · intro h; cases h
  · intro _; exact witness_validate_accepts_ready
  · show ∀ v, Uop.ofCode u.code = some v → st ∈ statesAt v
    intro v hv
    rw [Uop.ofCode_code] at hv
    cases hv
    exact h
  · intro _
    refine ⟨fun (hp : u.code = _) => ?_, fun (hp : u.code = _) => ?_⟩
    · have : u ≠ .xorText := fun hu => by subst hu; exact absurd hp (by decide)
      show inc32By 0#128 (if u = .xorText then 1 else 0) = inc32By 0#128 0
      rw [if_neg this]
    · have : u = .xorText := by cases u <;> first | rfl | exact absurd hp (by decide)
      subst this
      exact ⟨rfl, rfl⟩
  · intro _ _; rfl

/-- Every sequencer position, with any lengths and index, is met by a running state that a step leaves. -/
theorem witness_running_steps (u : Uop) (st : StateCode) (n a t i : BitVec 64) (c : BitVec 32) (g x : Block) :
    ∃ s : State, s = { running u st with nlen := n, alen := a, tlen := t, idx := i, cmd := c, tReg := g, tagin := x } ∧
      s.run = true ∧ Request.reset ∉ s.pending ∧ s.phase = u.code ∧ decode (.phase s.phase) = .ok u.toInstr ∧
      step s = .next ((uopEffect Config.E u s).advance u i) := by
  refine ⟨_, rfl, rfl, List.not_mem_nil, rfl, ?_, ?_⟩
  · cases u <;> rfl
  · cases u <;> rfl

/-- A key and a nonce length written, whatever is pending. -/
theorem witness_ready_inv (ps : List Request) : ({ ready with pending := ps } : State).Inv := by
  refine ⟨⟨rfl, rfl, rfl, rfl⟩, ⟨rfl, rfl⟩, fun _ => ⟨rfl, rfl, rfl, rfl, rfl, rfl, rfl⟩, ?_, ?_, ⟨?_, ?_⟩,
    ⟨⟨?_, ?_⟩, ?_⟩, ?_, ?_, ?_, ?_, Nat.le_refl _⟩
  · intro h; cases h
  · intro h; cases h
  · intro _ _ _ _; rfl
  · intro _; rfl
  · intro h; cases h
  · intro h; exact absurd rfl h
  · intro h; cases h
  · intro h; cases h
  · show StateCode.idle ∈ [StateCode.idle, .sealed, .opened, .rejected]
    decide
  · intro h; cases h
  · intro h; cases h

/-- A finished SEAL of one byte that satisfies the invariant. -/
def sealedOne (ps : List Request) : State :=
  { ready with
    cmd := 0x00108001#32, tlen := 1#64, h := Config.E keyK 0#128, hValid := true, state := .sealed, dout := [(0, 0x58#8)]
    tagout := 7#128, pending := ps }

theorem witness_sealed_inv (ps : List Request) : (sealedOne ps).Inv := by
  refine ⟨⟨rfl, rfl, rfl, rfl⟩, ⟨rfl, rfl⟩, fun _ => ⟨rfl, rfl, rfl, rfl, rfl, rfl, rfl⟩, ?_, ?_, ⟨?_, ?_⟩,
    ⟨⟨?_, ?_⟩, ?_⟩, ?_, ?_, ?_, ?_, Nat.le_refl _⟩
  · intro _; rfl
  · intro h; cases h
  · intro _ h; exact absurd rfl h
  · intro h; exact absurd rfl h
  · intro h; cases h
  · intro h; exact absurd rfl h
  · intro h; cases h
  · intro h; cases h
  · show StateCode.sealed ∈ [StateCode.idle, .sealed, .opened, .rejected]
    decide
  · intro h; cases h
  · intro h; cases h

theorem witness_DecodeInvertsEncode :
    (Instr.wrTagout 7 0#128).wellFormed = true ∧ (Instr.wrTagout 8 0#128).wellFormed = true ∧
      (Instr.rd 1).wellFormed = true ∧ (Instr.rd 3).wellFormed = true := by decide

theorem witness_EncodeInvertsDecode :
    decode (.phase 0x15#8) = .ok .cleanup ∧ decode (.request (.wr 3 0xffffffffffffffff#128)) = .ok (.wrNlen 0xffffffffffffffff#64) := by decide

/-- A word at the limit of each of the three clauses. -/
theorem witness_EveryCommandWordSealsOpensOrIsRefused :
    ready.run = false ∧
      ((0x00ffff01#32).toNat / 2 ^ 24 = 0 ∧ (0x00ffff01#32).toNat % 256 = 1) ∧
      ((0x00ffff02#32).toNat / 2 ^ 24 = 0 ∧ (0x00ffff02#32).toNat % 256 = 2) ∧ (0x01000001#32).toNat / 2 ^ 24 ≠ 0 ∧
      ((0x00ffff03#32).toNat % 256 ≠ 1 ∧ (0x00ffff03#32).toNat % 256 ≠ 2) := by decide

theorem witness_StepRunsDecodedInstruction :
    (∃ s : State, s = { ready with pending := [.rd 1] } ∧ s.run = false ∧ s.pending = .rd 1 :: [] ∧
      decode (.request (.rd 1)) = .ok (.rd 1)) ∧
    (∃ s : State, s = { ready with pending := [.cmd 0x00108000#32] } ∧ s.run = false ∧
      s.pending = .cmd 0x00108000#32 :: [] ∧
      decode (.request (.cmd 0x00108000#32)) = .rejected (.reservedCommand 0x00108000#32)) ∧
    (∃ s : State, s = running .ghCt .keystreamApplied ∧ s.run = true ∧ Request.reset ∉ s.pending ∧
      decode (.phase s.phase) = .ok .ghCt) ∧
    (∃ s : State, s = ready ∧ s.run = false ∧ s.pending = []) :=
  ⟨⟨_, rfl, rfl, rfl, rfl⟩, ⟨_, rfl, rfl, rfl, by decide⟩, ⟨_, rfl, rfl, List.not_mem_nil, rfl⟩, ⟨_, rfl, rfl, rfl⟩⟩

theorem witness_HostIsHeldWhileRunning :
    (running .ghCt .keystreamApplied).run = true ∧ encode (.wrCmd 0x00108001#32) = .request (.wr 0 0x00108001#128) ∧
      (Request.wr 0 0x00108001#128).isHost = true ∧ Request.wr 0 0x00108001#128 ≠ .reset ∧
      ∃ s t : State, s = running .ghCt .keystreamApplied ∧ s.run = true ∧ Request.reset ∉ s.pending ∧ step s = .next t := by
  obtain ⟨s, hs, h1, h2, -, -, h5⟩ :=
    witness_running_steps .ghCt .keystreamApplied 12#64 1#64 16#64 0#64 0x00108001#32 0#128 0#128
  exact ⟨rfl, by decide, rfl, by decide, s, _, hs, h1, h2, h5⟩

theorem witness_ResetEventClears :
    ∃ s : State, s = { running .xorText .idle with pending := [.rd 1, .reset] } ∧ s.run = true ∧ Request.reset ∈ s.pending :=
  ⟨_, rfl, rfl, by simp⟩

/-- At each clause, on both sides of its test: the last block and the one before it, a nonce of 12 bytes and another,
no text and no AAD, SEAL and OPEN, tags that agree and tags that differ. -/
theorem witness_SuccessorFollowsTheTable :
    (∀ u : Uop, ∀ i : BitVec 64, ∀ n : BitVec 64, ∃ s t : State, s.run = true ∧ Request.reset ∉ s.pending ∧
      step s = .next t ∧ s.phase = u.code ∧ s.idx = i ∧ s.nlen = n ∧ s.alen = n ∧ s.tlen = n) ∧
    (∃ s t : State, s.run = true ∧ Request.reset ∉ s.pending ∧ step s = .next t ∧ s.phase = 0x10#8 ∧
      s.cmd = 0x00108002#32) ∧
    (∃ s t : State, s.run = true ∧ Request.reset ∉ s.pending ∧ step s = .next t ∧ s.phase = 0x12#8 ∧ t.diff = 0#8) ∧
    ∃ s t : State, s.run = true ∧ Request.reset ∉ s.pending ∧ step s = .next t ∧ s.phase = 0x12#8 ∧ t.diff = 0x80#8 := by
  refine ⟨fun u i n => ?_, ?_, ?_, ?_⟩
  · obtain ⟨s, rfl, h1, h2, h3, -, h5⟩ := witness_running_steps u .idle n n n i 0x00108001#32 0#128 0#128
    exact ⟨_, _, h1, h2, h5, h3, rfl, rfl, rfl, rfl⟩
  · obtain ⟨s, rfl, h1, h2, h3, -, h5⟩ :=
      witness_running_steps .tagForm .keystreamApplied 12#64 0#64 0#64 0#64 0x00108002#32 0#128 0#128
    exact ⟨_, _, h1, h2, h5, h3, rfl⟩
  · obtain ⟨s, rfl, h1, h2, h3, -, h5⟩ :=
      witness_running_steps .tagCmp .tagComputed 12#64 0#64 0#64 0#64 0x00108002#32 7#128 7#128
    exact ⟨_, _, h1, h2, h5, h3, by decide⟩
  · obtain ⟨s, rfl, h1, h2, h3, -, h5⟩ :=
      witness_running_steps .tagCmp .tagComputed 12#64 0#64 0#64 0#64 0x00108002#32 7#128
        0x80000000000000000000000000000007#128
    exact ⟨_, _, h1, h2, h5, h3, by decide⟩

theorem witness_StepStopsOnlyOnMalformedRequest :
    ∃ s : State, s = { ready with pending := [.invoke 0x23#8 0#128 0#128] } ∧ s.Inv := ⟨_, rfl, witness_ready_inv _⟩

theorem witness_CounterBlocksAreDistinct :
    ∃ len i k : Nat, len = 2 ^ 36 - 32 ∧ i = 0 ∧ k = nblk len ∧ len ≤ 2 ^ 36 - 32 ∧ i ≤ nblk len ∧ k ≤ nblk len ∧ i ≠ k :=
  ⟨_, _, _, rfl, rfl, rfl, by decide⟩

theorem witness_OracleIsAskedUnderKey : ready.hValid = false ∧ afterSeal.hValid = true := by decide

/-- Lengths at the limit of the two length blocks. -/
theorem witness_length_blocks :
    (0x1fffffffffffffff#64).toNat < 2 ^ 61 ∧ ¬ (0x2000000000000000#64).toNat < 2 ^ 61 := by decide

/-- The last byte of a short block and the first byte of its padding. -/
theorem witness_padded_blocks :
    2 < 16 ∧ 16 * (1#64).toNat + 2 < x3.tlen.toNat ∧ ¬ 16 * (1#64).toNat + 3 < x3.tlen.toNat := by decide

theorem witness_LaunchErasesValidatesStarts : (sealedOne []).run = false := rfl

theorem witness_RefusedCommandOnlyErases :
    ∃ s v : State, s = sealedOne [] ∧ s.run = false ∧
      exec .validate { s with
        cmd := 0x00208001#32, state := .idle, err := .none, cause := .none, tagout := 0#128, dout := [] } = .next v ∧
      v.err = .invalidInput ∧ decode (.request (.cmd 0x00208001#32)) = .ok (.sealCmd 0x80#8 0x20#8) :=
  ⟨_, _, rfl, rfl, rfl, rfl, by decide⟩

/-- RUN = 0, for the statements about host operations; register number 8 is the first of the numbers above 7. -/
theorem witness_host_operations : afterSeal.run = false ∧ 8 ≤ 8 := by decide

theorem witness_OutputReadIsGated :
    afterSeal.run = false ∧ (afterSeal.state = .sealed ∨ afterSeal.state = .opened) ∧
      (18#64).toNat < afterSeal.tlen.toNat ∧ ¬ (19#64).toNat < afterSeal.tlen.toNat ∧
      ¬ (ready.state = .sealed ∨ ready.state = .opened) := by decide

/-! ### Whole commands -/

/-- The least and the greatest lengths that a command accepts. -/
theorem witness_accepts_limits :
    ({ ready with nlen := 1#64 } : State).acceptsCommand 96#8 16#8 ∧
      ({ ready with nlen := 8#64, maxNonceBytes := 8 } : State).acceptsCommand 96#8 16#8 ∧
      ({ ready with
        nlen := 0x1fffffffffffffff#64, tlen := 68719476704#64,
        alen := 68719476704#64 } : State).acceptsCommand 128#8 16#8 :=
  ⟨⟨rfl, rfl, by decide, by decide, by decide, by decide, by decide⟩,
    ⟨rfl, rfl, by decide, by decide, by decide, by decide, by decide⟩,
    ⟨rfl, rfl, by decide, by decide, by decide, by decide, by decide⟩⟩

theorem witness_CommandTakesTheCountedSteps :
    ∃ s l : State, s = ready ∧ s.run = false ∧ Request.reset ∉ s.pending ∧ exec (.wrCmd 0x00108001#32) s = .next l ∧
      l.run = true ∧ l.countedSteps = 9 := by
  have hv : (ready.beginLaunch 0x00108001#32).invalidCause = none := by decide
  refine ⟨_, _, rfl, rfl, List.not_mem_nil, rfl, ?_⟩
  show (launch 0x00108001#32 ready).run = true ∧
    (launch 0x00108001#32 ready).countedSteps = 9
  rw [launch_accepted hv]
  exact ⟨rfl, rfl⟩

theorem witness_WholeCommandIsItsSteps :
    ready.run = false ∧ Request.reset ∉ ready.pending ∧
      decode (.request (.cmd 0x00108002#32)) = .ok (.openCmd 0x80#8 0x10#8) :=
  ⟨rfl, List.not_mem_nil, by decide⟩

theorem witness_SealComputesCiphertextAndTag :
    ({ ready with pending := [.rd 1] } : State).Inv ∧ ready.run = false ∧ ready.acceptsCommand 104#8 16#8 := by
  exact ⟨witness_ready_inv _, rfl, rfl, rfl, by decide, by decide, by decide, by decide, by decide⟩

/-! ### One OPEN followed to its end, with the right tag and with wrong ones -/

/-- An OPEN without text or AAD, received tag `g`, about to do `u`. -/
def opening (g : Block) (u : Uop) (st : StateCode) (j c x e v : Block) (d : Byte) : State :=
  { ready with
    tagin := g, cmd := 0x00108002#32, h := Config.E keyK 0#128, hValid := true, run := true, phase := u.code, state := st
    j0 := j, cb := c, sReg := x, ej0 := e, tReg := v, diff := d }

/-- The pre-counter block, the hash and the tag of that OPEN. -/
abbrev openJ0 : Block := (j096 ready).j0

abbrev openHash : Block := absorb 0#128 (Config.E keyK 0#128) (lenBlk (0#64).toNat (0#64).toNat)

abbrev openTag : Block := openHash ^^^ Config.E keyK openJ0

theorem opening_j096 (g : Block) :
    seqStep Config.E (opening g .j096 .idle 0#128 0#128 0#128 0#128 0#128 0#8) =
      opening g .ctrInit .idle openJ0 0#128 0#128 0#128 0#128 0#8 := by
  have hb : (opening g .j096 .idle 0#128 0#128 0#128 0#128 0#128 0#8).readByte .nonce = ready.readByte .nonce := by
    funext off
    rfl
  have hm : (opening g .j096 .idle 0#128 0#128 0#128 0#128 0#128 0#8).memRead .nonce 0 canonNonceBytes =
      ready.memRead .nonce 0 canonNonceBytes := by
    rw [State.memRead, State.memRead, hb]
  have hj : (j096 (opening g .j096 .idle 0#128 0#128 0#128 0#128 0#128 0#8)) =
      opening g .j096 .idle openJ0 0#128 0#128 0#128 0#128 0#8 := by
    rw [j096, hm]
    rfl
  rw [seqStep_of_ofCode (u := .j096) rfl, uopEffect, hj]
  rfl

theorem opening_ctrInit (g j : Block) :
    seqStep Config.E (opening g .ctrInit .idle j 0#128 0#128 0#128 0#128 0#8) =
      opening g .ghInit .idle j j 0#128 0#128 0#128 0#8 := by
  rw [seqStep_of_ofCode (u := .ctrInit) rfl]
  simp [opening, ready, State.reset, uopEffect, ctrInit, State.advance, State.successor, State.setSeq, State.textBlocks,
    nblk]

theorem opening_ghInit (g j : Block) :
    seqStep Config.E (opening g .ghInit .idle j j 0#128 0#128 0#128 0#8) =
      opening g .ghLen .keystreamApplied j j 0#128 0#128 0#128 0#8 := by
  rw [seqStep_of_ofCode (u := .ghInit) rfl]
  simp [opening, ready, State.reset, uopEffect, ghInit, State.advance, State.successor, State.setSeq, State.textBlocks,
    State.aadBlocks, State.afterAad, nblk]

theorem opening_ghLen (g j : Block) :
    seqStep Config.E (opening g .ghLen .keystreamApplied j j 0#128 0#128 0#128 0#8) =
      opening g .maskJ0 .keystreamApplied j j openHash 0#128 0#128 0#8 := by
  rw [seqStep_of_ofCode (u := .ghLen) rfl]
  simp [opening, ready, State.reset, uopEffect, ghLen, openHash, State.advance, State.successor, State.setSeq]

theorem opening_maskJ0 (g j x : Block) :
    seqStep Config.E (opening g .maskJ0 .keystreamApplied j j x 0#128 0#128 0#8) =
      opening g .tagForm .keystreamApplied j j x (Config.E keyK j) 0#128 0#8 := by
  rw [seqStep_of_ofCode (u := .maskJ0) rfl]
  simp [opening, ready, State.reset, uopEffect, maskJ0, ecall, State.advance, State.successor, State.setSeq]

theorem opening_tagForm (g j x e : Block) :
    seqStep Config.E (opening g .tagForm .keystreamApplied j j x e 0#128 0#8) =
      opening g .tagCmp .tagComputed j j x e (x ^^^ e) 0#8 := by
  rw [seqStep_of_ofCode (u := .tagForm) rfl]
  simp [opening, ready, State.reset, uopEffect, tagForm, State.advance, State.successor, State.setSeq, cmdOp, opSeal]

theorem tagDiff_self (x : Block) : tagDiff x x 16 = 0#8 := by simp [tagDiff, List.range, List.range.loop]

theorem opening_tagCmp (g j x e v : Block) (d : Byte) (h : tagDiff v g 16 = d) :
    seqStep Config.E (opening g .tagCmp .tagComputed j j x e v 0#8) =
      opening g (if d = 0#8 then .release else .zeroize) .tagComputed j j x e v d := by
  have ht : (cmdTagbits 0x00108002#32).toNat / 8 = 16 := by decide
  rw [seqStep_of_ofCode (u := .tagCmp) rfl]
  by_cases hd : d = 0#8 <;>
    simp [opening, ready, State.reset, uopEffect, tagCmp, State.tagBytes, ht, h, State.advance, State.successor,
      State.setSeq, hd]

theorem opening_release (g j x e v : Block) :
    (runSeq Config.E 2 (opening g .release .tagComputed j j x e v 0#8)).state = .opened := rfl

theorem opening_zeroize (g j x e v : Block) (d : Byte) :
    (runSeq Config.E 2 (opening g .zeroize .tagComputed j j x e v d)).state = .rejected := rfl

theorem openTag_valid (g : Block) :
    (({ ready with tagin := g } : State).beginLaunch 0x00108002#32).invalidCause = none :=
  show (ready.beginLaunch 0x00108002#32).invalidCause = none by decide

theorem deriveH_step (g : Block) :
    seqStep Config.E (launch 0x00108002#32 { ready with tagin := g }) =
      opening g .j096 .idle 0#128 0#128 0#128 0#128 0#128 0#8 := by
  rw [launch_accepted (openTag_valid g)]
  rfl

/-- The OPEN as a whole, down to its last three steps. -/
theorem open_command (g : Block) :
    exec (.openCmd 128#8 16#8) { ready with tagin := g } = .next (runSeq Config.E 3
      (opening g .tagCmp .tagComputed openJ0 openJ0 openHash (Config.E keyK openJ0) openTag 0#8)) := by
  have hw : cmdWord opOpen 128#8 16#8 = 0x00108002#32 := by decide
  have hn : (launch 0x00108002#32 { ready with tagin := g }).commandSteps = 10 := by
    rw [launch_accepted (openTag_valid g)]
    show State.commandSteps { (ready.beginLaunch 0x00108002#32).setSeq .deriveH 0#64 with run := true } = 10
    decide
  have hr : (launch 0x00108002#32 { ready with tagin := g }).run = true := by
    rw [launch_accepted (openTag_valid g)]
  show Host.Outcome.next (command Config.E (cmdWord opOpen 128#8 16#8) { ready with tagin := g }) = _
  rw [hw, command, hn, runSeq_succ_running hr, deriveH_step, runSeq_succ_running rfl, opening_j096, runSeq_succ_running rfl, opening_ctrInit,
    runSeq_succ_running rfl, opening_ghInit, runSeq_succ_running rfl, opening_ghLen, runSeq_succ_running rfl, opening_maskJ0, runSeq_succ_running rfl, opening_tagForm]

/-- With the right tag it ends Opened. -/
theorem open_accepts :
    ∃ t, exec (.openCmd 128#8 16#8) { ready with tagin := openTag } = .next t ∧ t.state = .opened := by
  refine ⟨_, open_command openTag, ?_⟩
  rw [runSeq_succ_running rfl, opening_tagCmp _ _ _ _ _ _ (tagDiff_self _)]
  exact opening_release _ _ _ _ _

theorem byteAt_xor (x y : Block) (k : Nat) : byteAt (x ^^^ y) k = byteAt x k ^^^ byteAt y k := by
  simp [byteAt, BitVec.extractLsb'_xor]

/-- What TAG_CMP finds in a received tag that differs from the right one by `m`. -/
theorem tagDiff_xor (x m : Block) : tagDiff x (x ^^^ m) 16 = tagDiff 0#128 m 16 := by
  have h : ∀ k, byteAt x k ^^^ byteAt (x ^^^ m) k = byteAt 0#128 k ^^^ byteAt m k := fun k => by
    rw [byteAt_xor, ← BitVec.xor_assoc, BitVec.xor_self, BitVec.zero_xor, ← byteAt_xor, BitVec.zero_xor]
  simp only [tagDiff, h]

/-- With a wrong tag it ends Rejected. -/
theorem open_rejects (m : Block) (hm : tagDiff 0#128 m 16 ≠ 0#8) :
    ∃ t, exec (.openCmd 128#8 16#8) { ready with tagin := openTag ^^^ m } = .next t ∧ t.state = .rejected := by
  refine ⟨_, open_command (openTag ^^^ m), ?_⟩
  rw [runSeq_succ_running rfl, opening_tagCmp _ _ _ _ _ _ (tagDiff_xor _ _), if_neg hm]
  exact opening_zeroize _ _ _ _ _ _

/-! ### Whole commands, continued -/

theorem ready_with_tagin_inv (g : Block) : ({ ready with tagin := g } : State).Inv := by
  obtain ⟨h1, h2, h3, h4, h5, h6, h7, h8, h9, h10, h11, h12⟩ := witness_ready_inv []
  exact ⟨h1, h2, h3, h4, h5, h6, h7, h8, h9, h10, h11, h12⟩

theorem ready_accepts : ready.acceptsCommand 128#8 16#8 :=
  ⟨rfl, rfl, by decide, by decide, by decide, by decide, by decide⟩

theorem ready_with_tagin_accepts (g : Block) : ({ ready with tagin := g } : State).acceptsCommand 128#8 16#8 :=
  ready_accepts

theorem byteAt_xor_ne (x m : Block) (k : Nat) (h : byteAt m k ≠ 0#8) : byteAt (x ^^^ m) k ≠ byteAt x k := by
  rw [byteAt_xor]
  intro he
  apply h
  have h2 := congrArg (byteAt x k ^^^ ·) he
  simpa [← BitVec.xor_assoc] using h2

/-- Both clauses: the recomputed tag as TAGIN, and the same with its last byte changed. -/
theorem witness_OpenVerifiesAndDecrypts :
    ∃ s r : State, s = { ready with tagin := ready.fullTag Config.E (ready.inByte .din) } ∧
      r = { ready with tagin := ready.fullTag Config.E (ready.inByte .din) ^^^ 1#128 } ∧ s.Inv ∧ r.Inv ∧ s.run = false ∧
      r.run = false ∧ s.acceptsCommand 128#8 16#8 ∧ r.acceptsCommand 128#8 16#8 ∧
      tagsAgree (s.fullTag Config.E (s.inByte .din)) s.tagin ((128#8).toNat / 8) ∧
      ¬ tagsAgree (r.fullTag Config.E (r.inByte .din)) r.tagin ((128#8).toNat / 8) := by
  refine ⟨_, _, rfl, rfl, ready_with_tagin_inv _, ready_with_tagin_inv _, rfl, rfl, ready_with_tagin_accepts _,
    ready_with_tagin_accepts _, fun k _ => rfl, fun h => ?_⟩
  have h15 : byteAt (ready.fullTag Config.E (ready.inByte .din)) 15 =
      byteAt (ready.fullTag Config.E (ready.inByte .din) ^^^ 1#128) 15 := h 15 (by decide)
  exact byteAt_xor_ne _ 1#128 15 (by decide) h15.symm

/-- A SEAL of one byte, and the state of a receiver that holds its ciphertext and its tag and whose MAX_NONCE_BYTES is 12,
the length of the nonce. -/
theorem witness_OpenInvertsSeal :
    ∃ s t r : State, s = { ready with tlen := 1#64 } ∧ exec (.sealCmd 96#8 16#8) s = .next t ∧
      r = { s with din := [(0, t.doutByte 0)], tagin := t.tagout, maxNonceBytes := 12 } ∧ s.Inv ∧ s.run = false ∧
      s.acceptsCommand 96#8 16#8 ∧ r.Inv ∧ r.run = false ∧ r.key = s.key ∧ r.keyValid = true ∧ r.nlen = s.nlen ∧
      r.alen = s.alen ∧ r.tlen = s.tlen ∧ s.nlen.toNat ≤ r.maxNonceBytes ∧ (∀ k, k < s.nlen.toNat → r.inByte .nonce k = s.inByte .nonce k) ∧
      (∀ k, k < s.alen.toNat → r.inByte .aad k = s.inByte .aad k) ∧
      (∀ k, k < s.tlen.toNat → r.inByte .din k = t.doutByte k) ∧
      ∀ k, k < (96#8).toNat / 8 → byteAt r.tagin k = byteAt t.tagout k := by
  obtain ⟨t, ht⟩ := exec_answers_next (.sealCmd 96#8 16#8) { ready with tlen := 1#64 }
  obtain ⟨h1, h2, h3, h4, h5, h6, h7, h8, h9, h10, h11, h12⟩ := witness_ready_inv []
  refine ⟨_, t, _, rfl, ht, rfl, ⟨h1, h2, h3, h4, h5, h6, h7, h8, h9, h10, h11, h12⟩, rfl,
    ⟨rfl, rfl, by decide, by decide, by decide, by decide, by decide⟩,
    ⟨⟨rfl, rfl, rfl, rfl⟩, h2, h3, h4, h5, h6, h7, h8, h9, h10, h11, show 12 ≤ 2 ^ 61 - 1 by decide⟩, rfl, rfl, rfl,
    rfl, rfl, rfl, Nat.le_refl _, fun _ _ => rfl,
    fun _ _ => rfl, fun k hk => ?_, fun _ _ => rfl⟩
  obtain rfl : k = 0 := by
    have : k < 1 := hk
    omega
  rfl

theorem witness_TamperedTagIsRejected :
    ∃ s t : State, ∃ g : Block, s = { ready with tagin := openTag } ∧ g = openTag ^^^ 1#128 ∧ s.Inv ∧ s.run = false ∧
      s.acceptsCommand 128#8 16#8 ∧ exec (.openCmd 128#8 16#8) s = .next t ∧ t.state = .opened ∧
      15 < (128#8).toNat / 8 ∧ byteAt g 15 ≠ byteAt s.tagin 15 := by
  obtain ⟨t, ht, hs⟩ := open_accepts
  refine ⟨_, t, _, rfl, rfl, ready_with_tagin_inv _, rfl, ready_with_tagin_accepts _, ht, hs, by decide, fun h => ?_⟩
  exact byteAt_xor_ne openTag 1#128 15 (by decide) h

/-- The same text and nonce; other AAD and another tag length. -/
theorem witness_AadAndTagLengthLeaveCiphertext :
    ∃ s r t u : State, s = { ready with tlen := 17#64 } ∧ r = { s with alen := 1#64, aad := [(0, 1#8)] } ∧ s.Inv ∧ r.Inv ∧
      s.run = false ∧ r.run = false ∧ s.acceptsCommand 128#8 16#8 ∧ r.acceptsCommand 96#8 16#8 ∧ r.key = s.key ∧
      r.nlen = s.nlen ∧ r.tlen = s.tlen ∧ (∀ k, k < s.nlen.toNat → r.inByte .nonce k = s.inByte .nonce k) ∧
      (∀ k, k < s.tlen.toNat → r.inByte .din k = s.inByte .din k) ∧ exec (.sealCmd 128#8 16#8) s = .next t ∧
      exec (.sealCmd 96#8 16#8) r = .next u := by
  obtain ⟨t, ht⟩ := exec_answers_next (.sealCmd 128#8 16#8) { ready with tlen := 17#64 }
  obtain ⟨u, hu⟩ := exec_answers_next (.sealCmd 96#8 16#8) { ready with tlen := 17#64, alen := 1#64, aad := [(0, 1#8)] }
  obtain ⟨h1, h2, h3, h4, h5, h6, h7, h8, h9, h10, h11, h12⟩ := witness_ready_inv []
  exact ⟨_, _, t, u, rfl, rfl, ⟨h1, h2, h3, h4, h5, h6, h7, h8, h9, h10, h11, h12⟩,
    ⟨⟨rfl, rfl, rfl, rfl⟩, h2, h3, h4, h5, h6, h7, h8, h9, h10, h11, h12⟩, rfl, rfl,
    ⟨rfl, rfl, by decide, by decide, by decide, by decide, by decide⟩,
    ⟨rfl, rfl, by decide, by decide, by decide, by decide, by decide⟩, rfl, rfl, rfl, fun _ _ => rfl, fun _ _ => rfl, ht, hu⟩

/-- Two OPENs that fail at different bytes of the tag. -/
theorem witness_FailedOpensLookAlike :
    ∃ s r t u : State, s = { ready with tagin := openTag ^^^ 0x80000000000000000000000000000000#128 } ∧
      r = { ready with tagin := openTag ^^^ 1#128 } ∧ s.Inv ∧ r.Inv ∧ s.run = false ∧ r.run = false ∧
      exec (.openCmd 128#8 16#8) s = .next t ∧ exec (.openCmd 128#8 16#8) r = .next u ∧ t.state = .rejected ∧
      u.state = .rejected := by
  obtain ⟨t, ht, hs⟩ := open_rejects 0x80000000000000000000000000000000#128 (by decide)
  obtain ⟨u, hu, hr⟩ := open_rejects 1#128 (by decide)
  exact ⟨_, _, t, u, rfl, rfl, ready_with_tagin_inv _, ready_with_tagin_inv _, rfl, rfl, ht, hu, hs, hr⟩

/-! ### Whole-machine rules -/

/-- At XOR_TEXT with other keystream bytes, and at TAG_CMP with tags that agree in both or in neither. -/
theorem witness_SequenceIgnoresData :
    (∃ s r t u : State, s.run = true ∧ r.run = true ∧ Request.reset ∉ s.pending ∧ Request.reset ∉ r.pending ∧
      s.phase = 0x0A#8 ∧ r.phase = 0x0A#8 ∧ s.idx = r.idx ∧ s.cmd = r.cmd ∧ s.nlen = r.nlen ∧ s.alen = r.alen ∧
      s.tlen = r.tlen ∧ s.tReg ≠ r.tReg ∧ step s = .next t ∧ step r = .next u) ∧
    ∃ s r t u : State, s.run = true ∧ r.run = true ∧ Request.reset ∉ s.pending ∧ Request.reset ∉ r.pending ∧
      s.phase = 0x12#8 ∧ r.phase = 0x12#8 ∧ s.idx = r.idx ∧ s.cmd = r.cmd ∧ s.nlen = r.nlen ∧ s.alen = r.alen ∧
      s.tlen = r.tlen ∧ step s = .next t ∧ step r = .next u ∧ t.diff = 0x80#8 ∧ u.diff = 0x01#8 := by
  constructor
  · obtain ⟨s, rfl, h1, h2, h3, -, h5⟩ :=
      witness_running_steps .xorText .idle 12#64 0#64 16#64 0#64 0x00108001#32 7#128 0#128
    obtain ⟨r, rfl, k1, k2, k3, -, k5⟩ :=
      witness_running_steps .xorText .idle 12#64 0#64 16#64 0#64 0x00108001#32 9#128 0#128
    exact ⟨_, _, _, _, h1, k1, h2, k2, h3, k3, rfl, rfl, rfl, rfl, rfl, by decide, h5, k5⟩
  · obtain ⟨s, rfl, h1, h2, h3, -, h5⟩ :=
      witness_running_steps .tagCmp .tagComputed 12#64 0#64 0#64 0#64 0x00108002#32 7#128
        0x80000000000000000000000000000007#128
    obtain ⟨r, rfl, k1, k2, k3, -, k5⟩ :=
      witness_running_steps .tagCmp .tagComputed 12#64 0#64 0#64 0#64 0x00108002#32 7#128 6#128
    exact ⟨_, _, _, _, h1, k1, h2, k2, h3, k3, rfl, rfl, rfl, rfl, rfl, h5, k5, by decide, by decide⟩

/-- A running command at each position, an operation while RUN = 0, and a reset. -/
theorem witness_StepKeepsTheInvariant :
    (∀ u st, st ∈ statesAt u → ∃ s t : State, s = running u st ∧ s.Inv ∧ s.buffersCanonical ∧ step s = .next t) ∧
      ∃ s t : State, s = sealedOne [.wr 2 5#128] ∧ s.Inv ∧ s.buffersCanonical ∧ step s = .next t := by
  refine ⟨fun u st h => ?_, _, _, rfl, witness_sealed_inv _, (witness_sealed_inv _).1, rfl⟩
  obtain ⟨s, hs, -, -, -, -, h5⟩ := witness_running_steps u st 12#64 1#64 16#64 0#64 0x00108001#32 0#128 0#128
  exact ⟨s, _, hs, hs ▸ witness_running_inv u st h, hs ▸ (witness_running_inv u st h).1, h5⟩

/-- A launch and a whole command that are refused on MAX_NONCE_BYTES, and a step, with a value that is not the default. -/
theorem witness_ParameterNeverChanges :
    (∃ t, exec (.wrCmd 0x00108001#32) { ready with maxNonceBytes := 8 } = .next t ∧ t.cause = .nonceTooLong) ∧
      (∃ t, exec (.sealCmd 128#8 16#8) { ready with maxNonceBytes := 8 } = .next t ∧ t.cause = .nonceTooLong) ∧
      ∃ t, step { sealedOne [.reset] with maxNonceBytes := 8 } = .next t ∧ t.maxNonceBytes = 8 :=
  ⟨⟨_, rfl, by decide⟩, ⟨_, rfl, by decide⟩, ⟨_, rfl, rfl⟩⟩

/-- The least and the greatest value of the range. -/
theorem witness_InvariantHoldsAtReset : (0 : Nat) ≤ 2 ^ 61 - 1 ∧ Config.defaultMaxNonceBytes ≤ 2 ^ 61 - 1 := by decide

/-- A reset that strikes a running command, although it is not the oldest operation. -/
def resetBehind : State := { running .cleanup .sealed with pending := [.rd 1, .reset] }

/-- Both cases of a reset that strikes; a reset behind another operation while RUN = 0 does not. -/
theorem witness_resetStrikes :
    resetBehind.resetStrikes ∧ (sealedOne [.reset]).resetStrikes ∧ ¬ (sealedOne [.rd 1, .reset]).resetStrikes := by
  refine ⟨.inl ⟨rfl, by simp [resetBehind]⟩, .inr ⟨rfl, _, rfl⟩, fun h => ?_⟩
  rcases h with ⟨h, -⟩ | ⟨-, rest, h⟩
  · cases h
  · cases h

/-- The cases: KEY kept, written, zeroed by a reset while RUN = 0 and by one while RUN = 1. -/
theorem witness_KeyChangesOnlyByHostOrReset :
    (∃ t, step (sealedOne [.rd 2]) = .next t ∧ t.key = keyK) ∧
      (∃ t, step (sealedOne [.wr 2 5#128]) = .next t ∧ t.key = 5#128) ∧
      (∃ t, step (sealedOne [.reset]) = .next t ∧ t.key = 0#128) ∧
      ∃ t, step resetBehind = .next t ∧ t.key = 0#128 :=
  ⟨⟨_, rfl, rfl⟩, ⟨_, rfl, rfl⟩, ⟨_, rfl, rfl⟩, ⟨_, rfl, rfl⟩⟩

/-- Every edge: launch, reset, and the five micro-operations that set STATE. -/
theorem witness_StateFollowsItsEdges :
    (∃ s t : State, s = sealedOne [.wr 0 0x00108003#128] ∧ s.Inv ∧ step s = .next t ∧ t.state ≠ s.state) ∧
    (∃ s t : State, s = sealedOne [.reset] ∧ s.Inv ∧ step s = .next t ∧ t.state ≠ s.state) ∧
    (∃ s t : State, s = sealedOne [.cmd 0x00108003#32] ∧ s.Inv ∧ step s = .next t ∧ t.state ≠ s.state) ∧
    (∃ s t : State, s = resetBehind ∧ s.Inv ∧ step s = .next t ∧ t.state ≠ s.state) ∧
    ∀ u st, (u, st) ∈ [(Uop.ghInit, StateCode.idle), (.tagForm, .keystreamApplied), (.tagEmit, .tagComputed),
        (.release, .tagComputed), (.zeroize, .tagComputed)] →
      ∃ s t : State, s = running u st ∧ s.Inv ∧ step s = .next t ∧ t.state ≠ s.state := by
  refine ⟨⟨_, _, rfl, witness_sealed_inv _, rfl, by decide⟩, ⟨_, _, rfl, witness_sealed_inv _, rfl, by decide⟩,
    ⟨_, _, rfl, witness_sealed_inv _, rfl, by decide⟩,
    ⟨_, _, rfl, witness_running_inv .cleanup .sealed (by decide), rfl, fun h => nomatch h⟩, fun u st h => ?_⟩
  simp only [List.mem_cons, Prod.mk.injEq, List.not_mem_nil, or_false] at h
  obtain ⟨s, hs, -, -, -, -, h5⟩ := witness_running_steps u st 12#64 1#64 16#64 0#64 0x00108001#32 0#128 0#128
  have hi : st ∈ statesAt u := by
    rcases h with ⟨rfl, rfl⟩ | ⟨rfl, rfl⟩ | ⟨rfl, rfl⟩ | ⟨rfl, rfl⟩ | ⟨rfl, rfl⟩ <;> decide
  refine ⟨s, _, hs, hs ▸ witness_running_inv u st hi, h5, ?_⟩
  subst hs
  rcases h with ⟨rfl, rfl⟩ | ⟨rfl, rfl⟩ | ⟨rfl, rfl⟩ | ⟨rfl, rfl⟩ | ⟨rfl, rfl⟩ <;> exact fun h => nomatch h

/-- ERR and CAUSE change by a refused launch through either request, by VALIDATE alone, by a reset while RUN = 0 and while
RUN = 1, and by ZEROIZE. -/
theorem witness_ErrorIsStickyUntilTheNextLaunch :
    (∃ t, step (sealedOne [.wr 0 0#128]) = .next t ∧ t.err ≠ .none) ∧
      (∃ t, step (sealedOne [.cmd 0x00108003#32]) = .next t ∧ t.err ≠ .none) ∧
      (∃ t, step (sealedOne [.cmd 0x00208001#32]) = .next t ∧ t.cause ≠ .none) ∧
      (∃ t, step { sealedOne [.invoke 0x01#8 0#128 0#128] with cmd := 0#32 } = .next t ∧ t.cause ≠ .none) ∧
      (∃ t, step { sealedOne [.reset] with err := .invalidInput, cause := .key } = .next t ∧ t.err ≠ .invalidInput) ∧
      (∃ t, step { resetBehind with err := .invalidInput, cause := .key } = .next t ∧ t.err ≠ .invalidInput) ∧
      ∃ t, step (running .zeroize .tagComputed) = .next t ∧ t.err ≠ (running .zeroize .tagComputed).err :=
  ⟨⟨_, rfl, by decide⟩, ⟨_, rfl, by decide⟩, ⟨_, rfl, by decide⟩, ⟨_, rfl, by decide⟩, ⟨_, rfl, by decide⟩,
    ⟨_, rfl, fun h => nomatch h⟩, ⟨_, rfl, fun h => nomatch h⟩⟩

/-- Two states with different keys, hash subkeys and bytes of DOUT behind the gate. -/
theorem witness_SecretsHaveNoReadPath :
    ∃ s r : State, s = ready ∧ r = { ready with key := 5#128, h := 6#128, dout := [(0, 1#8)] } ∧ s.run = false ∧
      r.run = false ∧ s.sameToHost r :=
  ⟨_, _, rfl, rfl, rfl, rfl, rfl, rfl, rfl, rfl, rfl, rfl, rfl, fun _ _ => rfl, fun _ => rfl⟩

end Sys2Proof.Tests
end

/-! PROOFS. The statements that cite 00_scope.md: J0 from the 12-byte nonce, and the parameter MAX_NONCE_BYTES. -/

namespace Sys2Proof.Machine

open Sys2Proof

/-! ## A Block with its low 32 bits replaced (the form of J0_96 and of INC32) -/

theorem byteAt_replaceLow (v : Block) (c : BitVec 32) (k : Nat) (hk : k < 12) :
    byteAt (v.extractLsb' 32 96 ++ c) k = byteAt v k := by
  apply BitVec.eq_of_getLsbD_eq
  intro j hj
  have hhigh : ¬ 120 - 8 * k + j < 32 := by omega
  have hin : 120 - 8 * k + j - 32 < 96 := by omega
  have hback : 32 + (120 - 8 * k + j - 32) = 120 - 8 * k + j := by omega
  calc (byteAt (v.extractLsb' 32 96 ++ c) k).getLsbD j
      = (v.extractLsb' 32 96 ++ c).getLsbD (120 - 8 * k + j) := byteAt_getLsbD _ k j hj
    _ = (v.extractLsb' 32 96).getLsbD (120 - 8 * k + j - 32) := by simp only [BitVec.getLsbD_append, hhigh, if_false]
    _ = v.getLsbD (120 - 8 * k + j) := by simp [hin, hback]
    _ = (byteAt v k).getLsbD j := (byteAt_getLsbD v k j hj).symm

theorem replaceLow_toNat_mod (v : Block) (c : BitVec 32) :
    (v.extractLsb' 32 96 ++ c).toNat % 2 ^ 32 = c.toNat := by
  rw [BitVec.toNat_append, Nat.shiftLeft_eq, Nat.mul_comm, ← Nat.two_pow_add_eq_or_of_lt c.isLt, Nat.mul_add_mod,
    Nat.mod_eq_of_lt c.isLt]

/-! ## J0_96 -/

theorem j096_j0_byteAt (s : State) (k : Nat) (hk : k < 12) : byteAt (j096 s).j0 k = s.inByte .nonce k := by
  calc byteAt (j096 s).j0 k
      = byteAt (blockOfBytes (s.memRead .nonce 0 canonNonceBytes)) k := byteAt_replaceLow _ ctr0 k hk
    _ = (s.memRead .nonce 0 canonNonceBytes).getD k 0#8 := byteAt_blockOfBytes _ k (by omega)
    _ = s.readByte .nonce (0 + k) := by rw [State.memRead_getD, if_pos (show k < canonNonceBytes from hk)]
    _ = s.inByte .nonce k := by rw [Nat.zero_add]; rfl

/-- Settles O15: the high 96 bits of J0 are those of the nonce's bytes, the low 32 are CTR0 (41_counter_keystream.md
R104). -/
theorem j096IsNonceAndOne : Obligations.J096IsNonceAndOne :=
  ⟨rfl, fun s => ⟨(j096 s).j0, rfl, j096_j0_byteAt s, replaceLow_toNat_mod _ ctr0⟩⟩

/-! ## Case analysis of the shared operations -/

/-- A host operation holds or performs (45_host_access.md R190): what is true of both states is true of its result. -/
theorem State.hostOp_of {P : State → Prop} {s t : State} {r : Request} (hhold : P (s.hold r)) (hperf : P t) :
    P (s.hostOp r t) := by
  unfold State.hostOp
  split
  · exact hhold
  · exact hperf

/-- What every step of a running sequencer keeps, a run of the sequencer keeps. -/
theorem runSeq_keeps {P : State → Prop} {E : Block → Block → Block}
    (hstep : ∀ s : State, s.run = true → P s → P (seqStep E s)) (n : Nat) {s : State} (hs : P s) :
    P (runSeq E n s) := by
  induction n generalizing s with
  | zero => exact hs
  | succ n ih =>
    cases hr : s.run with
    | false => rwa [runSeq_idle hr]
    | true => rw [runSeq_succ_running hr]; exact ih (hstep s hr hs)

/-- A launch is the erasure, then either the exception of the first failing check or the first position
(45_host_access.md R196). -/
theorem launch_cases (w : BitVec 32) (s : State) :
    (∃ c, launch w s = (s.beginLaunch w).takeException .invalidInput c) ∨
      launch w s = { (s.beginLaunch w).setSeq .deriveH 0#64 with run := true } := by
  cases hc : (s.beginLaunch w).invalidCause with
  | some c => exact .inl ⟨c, launch_refused hc⟩
  | none => exact .inr (launch_accepted hc)

/-! ## MAX_NONCE_BYTES is kept by every operation (00_scope.md R5) -/

theorem State.hostOp_maxNonceBytes {s t : State} (r : Request) (h : t.maxNonceBytes = s.maxNonceBytes) :
    (s.hostOp r t).maxNonceBytes = s.maxNonceBytes :=
  State.hostOp_of (P := fun u => u.maxNonceBytes = s.maxNonceBytes) rfl h

@[simp] theorem uopEffect_maxNonceBytes (E : Block → Block → Block) (u : Uop) (s : State) :
    (uopEffect E u s).maxNonceBytes = s.maxNonceBytes := by
  cases u with
  | deriveH => simp only [uopEffect, deriveH]; split <;> rfl
  | _ => rfl

@[simp] theorem seqStep_maxNonceBytes (E : Block → Block → Block) (s : State) :
    (seqStep E s).maxNonceBytes = s.maxNonceBytes := by
  unfold seqStep
  split
  · rw [State.advance_maxNonceBytes, uopEffect_maxNonceBytes]
  · rfl

@[simp] theorem validate_maxNonceBytes (s : State) : (validate s).maxNonceBytes = s.maxNonceBytes := by
  unfold validate
  split <;> rfl

@[simp] theorem launch_maxNonceBytes (w : BitVec 32) (s : State) : (launch w s).maxNonceBytes = s.maxNonceBytes := by
  obtain ⟨c, hrefused⟩ | haccepted := launch_cases w s
  · rw [hrefused]; rfl
  · rw [haccepted]; rfl

@[simp] theorem command_maxNonceBytes (E : Block → Block → Block) (w : BitVec 32) (s : State) :
    (command E w s).maxNonceBytes = s.maxNonceBytes :=
  runSeq_keeps (P := fun u => u.maxNonceBytes = s.maxNonceBytes)
    (fun u _ hu => (seqStep_maxNonceBytes E u).trans hu) _ (launch_maxNonceBytes w s)

/-- The whole commands, the launch and VALIDATE by their lemmas; any other host operation is held or writes fields that
are not the parameter; a micro-operation is its effect, and only DERIVE_H branches. -/
theorem exec_maxNonceBytes {i : Instr} {s t : State} (h : exec i s = .next t) :
    t.maxNonceBytes = s.maxNonceBytes := by
  cases i with
  | sealCmd _ _ | openCmd _ _ => cases h; exact State.hostOp_maxNonceBytes _ (command_maxNonceBytes _ _ s)
  | wrCmd w => cases h; exact State.hostOp_maxNonceBytes _ (launch_maxNonceBytes w s)
  | validate => cases h; exact validate_maxNonceBytes s
  | wrb sp off b => cases h; exact State.hostOp_maxNonceBytes _ (State.hostWriteByte_maxNonceBytes s sp off.toNat b)
  | rd _ | rdKey | rdbIn _ _ | rdbDout _ | wrKey _ | wrNlen _ | wrAlen _ | wrTlen _ | wrTagin _ | wrStatus _
  | wrTagout _ _ => cases h; exact State.hostOp_maxNonceBytes _ rfl
  | gfmul _ _ | inc32 _ | ecall _ | reset => cases h; rfl
  | deriveH => cases h; exact uopEffect_maxNonceBytes Config.E .deriveH s
  | j096 | nghInit | nghAbsorb | nghLen | j0Take | ctrInit | ksBlock | xorText | ghInit | ghAad | ghCt | ghLen | maskJ0
  | tagForm | tagEmit | tagCmp | release | zeroize | cleanup => cases h; rfl

theorem step_maxNonceBytes {s t : State} (h : step s = .next t) : t.maxNonceBytes = s.maxNonceBytes := by
  obtain ⟨-, -, rfl⟩ | ⟨-, -, rfl⟩ | ⟨-, -, -, rfl⟩ | ⟨-, r, rest, i, -, -, hexec⟩ := step_next_cases h
  · rfl
  · rfl
  · exact seqStep_maxNonceBytes Config.E s
  · rw [exec_maxNonceBytes hexec, State.withPending_maxNonceBytes]

/-- Settles O54: a step waits, resets, runs a micro-operation or performs an issued operation, and each keeps the
parameter. -/
theorem parameterNeverChanges : Obligations.ParameterNeverChanges :=
  ⟨fun _ _ _ h => exec_maxNonceBytes h, fun _ _ h => step_maxNonceBytes h⟩

end Sys2Proof.Machine

/-! PROOFS. The statements of 10_state.md: the state after reset, the invariant and its step, the key, and what a host
read can tell. -/

namespace Sys2Proof.Machine

open Sys2Proof

/-! ## What no micro-operation writes, and a command is validated by -/

/-- The same key, command word, lengths and parameter: what validation and the block counts read. -/
structure State.SameCommand (t s : State) : Prop where
  key : t.key = s.key
  keyValid : t.keyValid = s.keyValid
  cmd : t.cmd = s.cmd
  nlen : t.nlen = s.nlen
  alen : t.alen = s.alen
  tlen : t.tlen = s.tlen
  maxNonceBytes : t.maxNonceBytes = s.maxNonceBytes

theorem State.SameCommand.invalidCause {t s : State} (h : t.SameCommand s) : t.invalidCause = s.invalidCause := by
  simp only [State.invalidCause, h.keyValid, h.cmd, h.nlen, h.alen, h.tlen, h.maxNonceBytes]

theorem State.SameCommand.indexBound {t s : State} (h : t.SameCommand s) (u : Uop) :
    t.indexBound u = s.indexBound u := by
  simp only [State.indexBound, State.nonceBlocks, State.aadBlocks, State.textBlocks, h.nlen, h.alen, h.tlen]

/-- DERIVE_H does nothing where H is valid, and otherwise asks the oracle (41_counter_keystream.md R103). -/
theorem uopEffect_deriveH_cases (E : Block → Block → Block) (s : State) :
    (s.hValid = true ∧ uopEffect E .deriveH s = s) ∨
      uopEffect E .deriveH s = { s with h := ecall E s 0#128, hValid := true } := by
  cases hv : s.hValid with
  | true => exact .inl ⟨rfl, if_pos hv⟩
  | false => exact .inr (if_neg (by rw [hv]; decide))

theorem uopEffect_sameCommand (E : Block → Block → Block) (u : Uop) (s : State) : (uopEffect E u s).SameCommand s := by
  cases u with
  | deriveH =>
    obtain ⟨-, h⟩ | h := uopEffect_deriveH_cases E s <;> rw [h] <;> exact ⟨rfl, rfl, rfl, rfl, rfl, rfl, rfl⟩
  | _ => exact ⟨rfl, rfl, rfl, rfl, rfl, rfl, rfl⟩

/-! ## KEY and KEY_VALID (10_state.md R12, R23) -/

/-- Both key registers keep their values. -/
def State.sameKey (t s : State) : Prop := t.key = s.key ∧ t.keyValid = s.keyValid

theorem State.hostOp_sameKey {s t : State} (r : Request) (h : t.sameKey s) : (s.hostOp r t).sameKey s :=
  State.hostOp_of (P := fun u => u.sameKey s) ⟨rfl, rfl⟩ h

theorem uopEffect_sameKey (E : Block → Block → Block) (u : Uop) (s : State) : (uopEffect E u s).sameKey s :=
  ⟨(uopEffect_sameCommand E u s).key, (uopEffect_sameCommand E u s).keyValid⟩

theorem seqStep_sameKey (E : Block → Block → Block) (s : State) : (seqStep E s).sameKey s := by
  unfold seqStep
  split
  · next u _ => exact ⟨(State.advance_key ..).trans (uopEffect_sameKey E u s).1,
      (State.advance_keyValid ..).trans (uopEffect_sameKey E u s).2⟩
  · exact ⟨rfl, rfl⟩

theorem validate_sameKey (s : State) : (validate s).sameKey s := by
  unfold validate
  split <;> exact ⟨rfl, rfl⟩

theorem launch_sameKey (w : BitVec 32) (s : State) : (launch w s).sameKey s := by
  obtain ⟨c, hrefused⟩ | haccepted := launch_cases w s
  · rw [hrefused]; exact ⟨rfl, rfl⟩
  · rw [haccepted]; exact ⟨rfl, rfl⟩

theorem command_sameKey (E : Block → Block → Block) (w : BitVec 32) (s : State) : (command E w s).sameKey s :=
  runSeq_keeps (P := fun u => u.sameKey s)
    (fun u _ hu => ⟨(seqStep_sameKey E u).1.trans hu.1, (seqStep_sameKey E u).2.trans hu.2⟩) _ (launch_sameKey w s)

/-- WR KEY performed and RESET are the two instructions that write the key registers. -/
theorem exec_key_cases {i : Instr} {s t : State} (h : exec i s = .next t) :
    t.sameKey s ∨ (∃ v, i = .wrKey v ∧ t.key = v ∧ t.keyValid = true) ∨
      (i = .reset ∧ t.key = 0#128 ∧ t.keyValid = false) := by
  cases i with
  | wrKey v =>
    cases h
    cases hr : s.run with
    | true => rw [State.hostOp_running hr]; exact .inl ⟨rfl, rfl⟩
    | false => rw [State.hostOp_idle hr]; exact .inr (.inl ⟨v, rfl, rfl, rfl⟩)
  | reset => cases h; exact .inr (.inr ⟨rfl, rfl, rfl⟩)
  | sealCmd _ _ | openCmd _ _ => cases h; exact .inl (State.hostOp_sameKey _ (command_sameKey _ _ s))
  | wrCmd w => cases h; exact .inl (State.hostOp_sameKey _ (launch_sameKey w s))
  | validate => cases h; exact .inl (validate_sameKey s)
  | wrb sp off b =>
    cases h
    exact .inl (State.hostOp_sameKey _
      ⟨State.hostWriteByte_key s sp off.toNat b, State.hostWriteByte_keyValid s sp off.toNat b⟩)
  | rd _ | rdKey | rdbIn _ _ | rdbDout _ | wrNlen _ | wrAlen _ | wrTlen _ | wrTagin _ | wrStatus _ | wrTagout _ _ =>
    cases h; exact .inl (State.hostOp_sameKey _ ⟨rfl, rfl⟩)
  | gfmul _ _ | inc32 _ | ecall _ => cases h; exact .inl ⟨rfl, rfl⟩
  | deriveH => cases h; exact .inl (uopEffect_sameKey Config.E .deriveH s)
  | j096 | nghInit | nghAbsorb | nghLen | j0Take | ctrInit | ksBlock | xorText | ghInit | ghAad | ghCt | ghLen | maskJ0
  | tagForm | tagEmit | tagCmp | release | zeroize | cleanup => cases h; exact .inl ⟨rfl, rfl⟩

/-! ## The request an issued instruction comes from -/

/-- A command word with RSV = 0 is its other three fields (30_encoding.md R60). -/
theorem cmdWord_of_fields {w : BitVec 32} (h : cmdRsv w = 0#8) : cmdWord (cmdOp w) (cmdTagbits w) (cmdKlen w) = w := by
  rw [cmdWord, ← h]
  apply BitVec.eq_of_getLsbD_eq
  intro j hj
  simp only [cmdOp, cmdTagbits, cmdKlen, cmdRsv, BitVec.getLsbD_append, BitVec.getLsbD_extractLsb']
  split
  · next hlow => simp [hlow]
  · split
    · have hb : j - 8 < 8 ∧ 8 + (j - 8) = j := by omega
      simp [hb]
    · split
      · have hb : j - 8 - 8 < 8 ∧ 16 + (j - 8 - 8) = j := by omega
        simp [hb]
      · have hb : j - 8 - 8 - 8 < 8 ∧ 24 + (j - 8 - 8 - 8) = j := by omega
        simp [hb]

theorem encode_of_decodeCmd {w : BitVec 32} {i : Instr} (h : decodeCmd w = .ok i) : encode i = .request (.cmd w) := by
  unfold decodeCmd at h
  split at h
  · cases h
  · next hrsv =>
    have hw := cmdWord_of_fields (not_not.1 hrsv)
    split at h
    · next hop => cases h; exact congrArg (fun x => Code.request (.cmd x)) (hop ▸ hw)
    · split at h
      · next hop => cases h; exact congrArg (fun x => Code.request (.cmd x)) (hop ▸ hw)
      · cases h

/-- A register's value, narrowed to the register and widened again. -/
theorem setWidth_setWidth_of_lt {n : Nat} {v : BitVec 128} (h : v.toNat < 2 ^ n) :
    (v.setWidth n).setWidth 128 = v := by
  apply BitVec.eq_of_toNat_eq
  rw [BitVec.toNat_setWidth, BitVec.toNat_setWidth, Nat.mod_eq_of_lt h, Nat.mod_eq_of_lt v.isLt]

theorem encode_of_decodeWr {reg : Nat} {v : BitVec 128} {i : Instr} (h : decodeWr reg v = .ok i) :
    encode i = .request (.wr reg v) := by
  unfold decodeWr at h
  split at h
  case h_1 | h_2 | h_4 | h_5 | h_6 =>
    split at h
    · next hv => cases h; exact congrArg (fun x => Code.request (.wr _ x)) (setWidth_setWidth_of_lt hv)
    · cases h
  case h_3 | h_7 | h_8 => cases h; rfl

theorem encode_of_decodeInvoke {c : Byte} {a b : Block} {i : Instr} (h : decodeInvoke c a b = .ok i) :
    encode i = .request (.invoke c a b) := by
  unfold decodeInvoke at h
  split at h
  · next hc =>
    obtain rfl : c = 0x01#8 := BitVec.eq_of_toNat_eq hc
    split at h
    · next hab => cases h; rw [hab.1, hab.2]; rfl
    · cases h
  · next hc => obtain rfl : c = 0x20#8 := BitVec.eq_of_toNat_eq hc; cases h; rfl
  · next hc =>
    obtain rfl : c = 0x21#8 := BitVec.eq_of_toNat_eq hc
    split at h
    · next hb => cases h; rw [hb]; rfl
    · cases h
  · next hc =>
    obtain rfl : c = 0x22#8 := BitVec.eq_of_toNat_eq hc
    split at h
    · next hb => cases h; rw [hb]; rfl
    · cases h
  · cases h

/-- What an issued request decodes to is encoded as that request. -/
theorem encode_of_decodeRequest {r : Request} {i : Instr} (h : decodeRequest r = .ok i) : encode i = .request r := by
  cases r with
  | cmd w => exact encode_of_decodeCmd h
  | rd reg =>
    simp only [decodeRequest, decodeRd] at h
    split at h
    · next hreg => cases h; rw [hreg]; rfl
    · cases h; rfl
  | wr reg v => exact encode_of_decodeWr h
  | wrb sp off b => cases h; rfl
  | rdb sp off => cases sp <;> cases h <;> rfl
  | reset => cases h; rfl
  | invoke c a b => exact encode_of_decodeInvoke h

/-- Only a command word is rejected as reserved (30_encoding.md R67(a)). -/
theorem eq_cmd_of_decodeRequest_reserved {r : Request} {w : BitVec 32}
    (h : decodeRequest r = .rejected (.reservedCommand w)) : r = .cmd w := by
  cases r with
  | cmd w' =>
    simp only [decodeRequest, decodeCmd] at h
    split at h
    · cases h; rfl
    · split at h
      · cases h
      · split at h <;> cases h
        rfl
  | rd reg => simp only [decodeRequest, decodeRd] at h; split at h <;> cases h
  | wr reg v =>
    simp only [decodeRequest, decodeWr] at h
    split at h
    case h_1 | h_2 | h_4 | h_5 | h_6 => split at h <;> cases h
    case h_3 | h_7 | h_8 => cases h
  | wrb sp off b => cases h
  | rdb sp off => cases sp <;> cases h
  | reset => cases h
  | invoke c a b =>
    simp only [decodeRequest, decodeInvoke] at h
    split at h
    case h_1 | h_3 | h_4 => split at h <;> cases h
    case h_2 | h_5 => cases h

/-- The instruction a request asks for is encoded as the request, but for a reserved command word, which is launched
(30_encoding.md R67(a)). -/
theorem requestInstr_cases {r : Request} {i : Instr} (h : requestInstr r = some i) :
    encode i = .request r ∨ ∃ w, r = .cmd w ∧ i = .wrCmd w := by
  unfold requestInstr at h
  split at h
  · next hd => cases h; exact .inl (encode_of_decodeRequest hd)
  · next w hd =>
    cases h
    exact .inr ⟨w, eq_cmd_of_decodeRequest_reserved hd, rfl⟩
  · cases h

/-! ## The counter block (41_counter_keystream.md R100) -/

theorem inc32By_zero (j : Block) : inc32By j 0 = j := by
  simp only [inc32By, Nat.add_zero, BitVec.ofNat_toNat, BitVec.setWidth_eq]
  apply BitVec.eq_of_getLsbD_eq
  intro k hk
  rw [BitVec.getLsbD_append]
  split
  · next hlow => simp [hlow]
  · next hhigh =>
    have hback : k - 32 < 96 ∧ 32 + (k - 32) = k := by omega
    simp [hback]

theorem inc32_inc32By (j : Block) (k : Nat) : inc32 (inc32By j k) = inc32By j (k + 1) := by
  have hhigh : (inc32By j k).extractLsb' 32 96 = j.extractLsb' 32 96 := BitVec.extractLsb'_append_eq_left
  have hlow : (inc32By j k).extractLsb' 0 32 = BitVec.ofNat 32 ((j.extractLsb' 0 32).toNat + k) :=
    BitVec.extractLsb'_append_eq_right
  rw [inc32, hhigh, hlow, inc32By, ← Nat.add_assoc, BitVec.ofNat_add ((j.extractLsb' 0 32).toNat + k) 1]

/-! ## The invariant by the value of RUN

`State.Inv` is the clauses that read neither RUN nor the sequencer position, and either those of a core at rest or those
of a position. -/

/-- The clauses of the invariant that read neither RUN nor the sequencer position. -/
def State.standing (s : State) : Prop :=
  s.buffersCanonical ∧ s.subkeyCached ∧ s.rejectedIsBlank ∧ (s.state ≠ .sealed → s.tagout = 0#128) ∧
    s.exceptionFieldsAgree ∧ s.parameterInRange

/-- What the invariant adds while RUN = 0 (10_state.md R24, R25, R31; 45_host_access.md R199). -/
def State.atRest (s : State) : Prop :=
  (s.phase = 0#8 ∧ s.idx = 0#64) ∧
    (s.j0 = 0#128 ∧ s.cb = 0#128 ∧ s.ks = 0#128 ∧ s.sReg = 0#128 ∧ s.ej0 = 0#128 ∧ s.tReg = 0#128 ∧ s.diff = 0#8) ∧
    (s.state ≠ .sealed → s.state ≠ .opened → ∀ off, s.doutByte off = 0#8) ∧
    s.state ∈ [StateCode.idle, .sealed, .opened, .rejected]

/-- What the invariant adds while RUN = 1, of a state about to do `u` at index `i`, wherever PHASE and IDX stand
(10_state.md R15, R16, R24; 44_aead_orchestrator.md R162, R170, R171). -/
structure State.fitsPosition (s : State) (u : Uop) (i : BitVec 64) : Prop where
  inRange : i.toNat < s.indexBound u
  valid : s.invalidCause = none
  stateFits : s.state ∈ statesAt u
  counter : u = .ksBlock → s.cb = inc32By s.j0 i.toNat
  keystream : u = .xorText → s.cb = inc32By s.j0 (i.toNat + 1) ∧ s.ks = Config.E s.key s.cb
  subkeyReady : u ≠ .deriveH → s.hValid = true

theorem Uop.code_inj {u v : Uop} : u.code = v.code ↔ u = v :=
  ⟨fun h => Option.some.inj (by rw [← Uop.ofCode_code u, h, Uop.ofCode_code]), congrArg Uop.code⟩

theorem State.sequencerInRange_running {s : State} {u : Uop} (hr : s.run = true) (hu : s.phase = u.code) :
    s.sequencerInRange ↔ s.idx.toNat < s.indexBound u := by
  simp [State.sequencerInRange, hr, hu]

theorem State.stateFitsPosition_running {s : State} {u : Uop} (hr : s.run = true) (hu : s.phase = u.code) :
    s.stateFitsPosition ↔ s.state ∈ statesAt u := by
  simp [State.stateFitsPosition, hr, hu]

theorem State.sequencerInRange_idle {s : State} (hr : s.run = false) :
    s.sequencerInRange ↔ s.phase = 0#8 ∧ s.idx = 0#64 := by
  simp [State.sequencerInRange, hr]

theorem State.stateFitsPosition_idle {s : State} (hr : s.run = false) :
    s.stateFitsPosition ↔ s.state ∈ [StateCode.idle, .sealed, .opened, .rejected] := by
  simp only [State.stateFitsPosition, hr, Bool.false_eq_true, if_false]

/-- A state with RUN = 0 meets every clause about a running command. -/
theorem State.inv_iff_idle {s : State} (hr : s.run = false) : s.Inv ↔ s.standing ∧ s.atRest := by
  have hnot {p : Prop} (h : s.run = true) : p := absurd (hr.symm.trans h) (nomatch ·)
  constructor
  · rintro ⟨hbuf, hseq, htemp, hsub, hblank, ⟨hgate, htag⟩, hexc, -, hstate, -, -, hpar⟩
    exact ⟨⟨hbuf, hsub, hblank, htag, hexc, hpar⟩, (State.sequencerInRange_idle hr).1 hseq, htemp hr, hgate hr,
      (State.stateFitsPosition_idle hr).1 hstate⟩
  · rintro ⟨⟨hbuf, hsub, hblank, htag, hexc, hpar⟩, hseq, htemp, hgate, hstate⟩
    exact ⟨hbuf, (State.sequencerInRange_idle hr).2 hseq, fun _ => htemp, hsub, hblank, ⟨fun _ => hgate, htag⟩, hexc,
      hnot, (State.stateFitsPosition_idle hr).2 hstate, hnot, hnot, hpar⟩

/-- A running state meets every clause about a core at rest. -/
theorem State.inv_iff_running {s : State} {u : Uop} (hr : s.run = true) (hu : s.phase = u.code) :
    s.Inv ↔ s.standing ∧ s.fitsPosition u s.idx := by
  have hnot {p : Prop} (h : s.run = false) : p := absurd (hr.symm.trans h) (nomatch ·)
  have hat {v : Uop} : s.phase = v.code ↔ u = v := by rw [hu, Uop.code_inj]
  constructor
  · rintro ⟨hbuf, hseq, -, hsub, hblank, ⟨-, htag⟩, hexc, hvalid, hstate, hcounter, hready, hpar⟩
    obtain ⟨hks, hxor⟩ := hcounter hr
    exact ⟨⟨hbuf, hsub, hblank, htag, hexc, hpar⟩, (State.sequencerInRange_running hr hu).1 hseq, hvalid hr,
      (State.stateFitsPosition_running hr hu).1 hstate, fun h => hks (hat.2 h), fun h => hxor (hat.2 h),
      fun h => hready hr (hat.not.2 h)⟩
  · rintro ⟨⟨hbuf, hsub, hblank, htag, hexc, hpar⟩, hrange, hvalid, hstate, hks, hxor, hready⟩
    exact ⟨hbuf, (State.sequencerInRange_running hr hu).2 hrange, hnot, hsub, hblank, ⟨hnot, htag⟩, hexc,
      fun _ => hvalid, (State.stateFitsPosition_running hr hu).2 hstate,
      fun _ => ⟨fun h => hks (hat.1 h), fun h => hxor (hat.1 h)⟩, fun _ h => hready (hat.not.1 h), hpar⟩

/-- A running state of the invariant stands at a position. -/
theorem State.Inv.position {s : State} (hs : s.Inv) (hr : s.run = true) : ∃ u : Uop, s.phase = u.code := by
  obtain ⟨-, hseq, -⟩ := hs
  rw [State.sequencerInRange, if_pos hr] at hseq
  obtain ⟨u, hu, -⟩ := hseq
  exact ⟨u, Uop.ofCode_eq_some hu⟩

theorem State.Inv.parameterInRange {s : State} (hs : s.Inv) : s.parameterInRange := by
  obtain ⟨-, -, -, -, -, -, -, -, -, -, -, hparameter⟩ := hs
  exact hparameter

/-! ## Reset (10_state.md R33, 70_reset_and_hazards.md R240) -/

theorem State.resetEvent_inv {s : State} (h : s.parameterInRange) : s.resetEvent.Inv := by
  have hstanding : s.resetEvent.standing :=
    ⟨⟨rfl, rfl, rfl, rfl⟩, (nomatch ·), (nomatch ·), fun _ => rfl,
      ⟨⟨(nomatch ·), fun hc => absurd rfl hc⟩, (nomatch ·)⟩, h⟩
  have hrest : s.resetEvent.atRest :=
    ⟨⟨rfl, rfl⟩, ⟨rfl, rfl, rfl, rfl, rfl, rfl, rfl⟩, fun _ _ _ => rfl, List.mem_cons_self⟩
  exact (State.inv_iff_idle rfl).2 ⟨hstanding, hrest⟩

/-! ## The launch, VALIDATE and the host writes -/

theorem State.invalidCause_ne_none {s : State} {c : Cause} (h : s.invalidCause = some c) : c ≠ .none := by
  rintro rfl
  revert h
  unfold State.invalidCause
  split_ifs <;> exact (nomatch ·)

theorem State.standing.takeInvalidInput {s : State} {c : Cause} (hs : s.standing) (hc : c ≠ .none) :
    (s.takeException .invalidInput c).standing := by
  obtain ⟨hbuf, hsub, hblank, htag, -, hpar⟩ := hs
  exact ⟨hbuf, hsub, hblank, htag, ⟨⟨fun _ => hc, fun _ => rfl⟩, (nomatch ·)⟩, hpar⟩

theorem validate_inv {s : State} (hs : s.Inv) (hr : s.run = false) : (validate s).Inv := by
  unfold validate
  split
  · next c hc =>
    obtain ⟨hstanding, hrest⟩ := (State.inv_iff_idle hr).1 hs
    exact (State.inv_iff_idle (s := s.takeException .invalidInput c) hr).2
      ⟨hstanding.takeInvalidInput (State.invalidCause_ne_none hc), hrest⟩
  · exact hs

theorem State.beginLaunch_standing {s : State} (hs : s.standing) (w : BitVec 32) : (s.beginLaunch w).standing := by
  obtain ⟨⟨hnonce, haad, hdin, -⟩, hsub, -, -, -, hpar⟩ := hs
  exact ⟨⟨hnonce, haad, hdin, rfl⟩, hsub, (nomatch ·), fun _ => rfl,
    ⟨⟨(nomatch ·), fun hc => absurd rfl hc⟩, (nomatch ·)⟩, hpar⟩

theorem State.beginLaunch_atRest {s : State} (hs : s.atRest) (w : BitVec 32) : (s.beginLaunch w).atRest := by
  obtain ⟨hseq, htemp, -, -⟩ := hs
  exact ⟨hseq, htemp, fun _ _ _ => rfl, List.mem_cons_self⟩

/-- A refused launch leaves the core at rest; an accepted one puts it at DERIVE_H, in STATE Idle. -/
theorem launch_inv {s : State} (hs : s.Inv) (hr : s.run = false) (w : BitVec 32) : (launch w s).Inv := by
  obtain ⟨hstanding, hrest⟩ := (State.inv_iff_idle hr).1 hs
  cases hc : (s.beginLaunch w).invalidCause with
  | some c =>
    rw [launch_refused hc]
    exact (State.inv_iff_idle (s := (s.beginLaunch w).takeException .invalidInput c) hr).2
      ⟨(State.beginLaunch_standing hstanding w).takeInvalidInput (State.invalidCause_ne_none hc),
        State.beginLaunch_atRest hrest w⟩
  | none =>
    rw [launch_accepted hc]
    refine (State.inv_iff_running (u := .deriveH) rfl rfl).2 ⟨State.beginLaunch_standing hstanding w, ?_⟩
    exact ⟨Nat.one_pos, hc, List.mem_cons_self, (nomatch ·), (nomatch ·), fun hne => absurd rfl hne⟩

theorem State.writeKey_inv {s : State} (hs : s.Inv) (hr : s.run = false) (v : Block) : (s.writeKey v).Inv := by
  obtain ⟨⟨hbuf, -, hblank, htag, hexc, hpar⟩, hrest⟩ := (State.inv_iff_idle hr).1 hs
  exact (State.inv_iff_idle (s := s.writeKey v) hr).2 ⟨⟨hbuf, (nomatch ·), hblank, htag, hexc, hpar⟩, hrest⟩

/-- The lengths and TAGIN are read only by clauses about a running command. -/
theorem State.writeInputRegisters_inv {s : State} (hs : s.Inv) (hr : s.run = false) (n a t : BitVec 64) (g : Block) :
    ({ s with nlen := n, alen := a, tlen := t, tagin := g } : State).Inv :=
  (State.inv_iff_idle (s := { s with nlen := n, alen := a, tlen := t, tagin := g }) hr).2
    ((State.inv_iff_idle hr).1 hs)

theorem State.hostWriteByte_inv {s : State} (hs : s.Inv) (sp : Space) (off : Nat) (b : Byte) :
    (s.hostWriteByte sp off b).Inv := by
  obtain ⟨⟨hnonce, haad, hdin, hdout⟩, hrest⟩ := hs
  cases sp with
  | nonce => exact ⟨⟨Memory.wf_memWrite off b hnonce, haad, hdin, hdout⟩, hrest⟩
  | aad => exact ⟨⟨hnonce, Memory.wf_memWrite off b haad, hdin, hdout⟩, hrest⟩
  | din => exact ⟨⟨hnonce, haad, Memory.wf_memWrite off b hdin, hdout⟩, hrest⟩
  | dout => exact ⟨⟨hnonce, haad, hdin, hdout⟩, hrest⟩

/-! ## The sequencer: the next position (44_aead_orchestrator.md R171) -/

/-- The micro-operations that can follow one, whatever the lengths, the command and DIFF. -/
def nextUops : Uop → List Uop
  | .deriveH => [.j096, .nghInit]
  | .j096 => [.ctrInit]
  | .nghInit => [.nghAbsorb]
  | .nghAbsorb => [.nghAbsorb, .nghLen]
  | .nghLen => [.j0Take]
  | .j0Take => [.ctrInit]
  | .ctrInit => [.ksBlock, .ghInit]
  | .ksBlock => [.xorText]
  | .xorText => [.ksBlock, .ghInit]
  | .ghInit => [.ghAad, .ghCt, .ghLen]
  | .ghAad => [.ghAad, .ghCt, .ghLen]
  | .ghCt => [.ghCt, .ghLen]
  | .ghLen => [.maskJ0]
  | .maskJ0 => [.tagForm]
  | .tagForm => [.tagEmit, .tagCmp]
  | .tagEmit => [.cleanup]
  | .tagCmp => [.release, .zeroize]
  | .release => [.cleanup]
  | .zeroize => [.cleanup]
  | .cleanup => []

/-- Every micro-operation but CLEANUP has a successor, one of those that can follow it. -/
theorem State.successor_exists {u : Uop} (hu : u ≠ .cleanup) (s : State) (i : BitVec 64) :
    ∃ v ∈ nextUops u, ∃ j, s.successor u i = some (v, j) := by
  cases u with
  | j096 | nghInit | nghLen | j0Take | ksBlock | ghLen | maskJ0 | tagEmit | release | zeroize =>
    exact ⟨_, List.mem_cons_self, _, rfl⟩
  | deriveH | nghAbsorb | ctrInit | xorText | ghCt | tagForm | tagCmp =>
    simp only [State.successor]
    split
    · exact ⟨_, List.mem_cons_self, _, rfl⟩
    · exact ⟨_, List.mem_cons_of_mem _ List.mem_cons_self, _, rfl⟩
  | ghInit | ghAad =>
    simp only [State.successor, State.afterAad]
    split
    · exact ⟨_, List.mem_cons_self, _, rfl⟩
    · split
      · exact ⟨_, List.mem_cons_of_mem _ List.mem_cons_self, _, rfl⟩
      · exact ⟨_, List.mem_cons_of_mem _ (List.mem_cons_of_mem _ List.mem_cons_self), _, rfl⟩
  | cleanup => exact absurd rfl hu

/-- An index below a block count of 64-bit length moves on without wrapping. -/
theorem toNat_add_one_of_lt_nblk {i n : BitVec 64} (h : i.toNat + 1 < nblk n.toNat) :
    (i + 1#64).toNat = i.toNat + 1 := by
  have hn : nblk n.toNat ≤ 2 ^ 60 := by unfold nblk; omega
  rw [BitVec.toNat_add, BitVec.toNat_ofNat]
  omega

theorem State.afterAad_inRange {s : State} {v : Uop} {j : BitVec 64} (h : some s.afterAad = some (v, j)) :
    j.toNat < s.indexBound v := by
  unfold State.afterAad at h
  split at h
  · next htext => cases h; exact htext
  · cases h; exact Nat.one_pos

/-- The successor's index is below the block count of its micro-operation. -/
theorem State.successor_inRange {s : State} {u v : Uop} {i j : BitVec 64} (hnonce : 0 < s.nonceBlocks)
    (hi : i.toNat < s.indexBound u) (h : s.successor u i = some (v, j)) : j.toNat < s.indexBound v := by
  cases u with
  | j096 | nghLen | j0Take | ghLen | maskJ0 | tagEmit | release | zeroize => cases h; exact Nat.one_pos
  | deriveH | tagForm | tagCmp => simp only [State.successor] at h; split at h <;> cases h <;> exact Nat.one_pos
  | nghInit => cases h; exact hnonce
  | ksBlock => cases h; exact hi
  | nghAbsorb | ghCt | xorText =>
    simp only [State.successor] at h
    split at h
    · next hlt => cases h; exact (toNat_add_one_of_lt_nblk hlt).trans_lt hlt
    · cases h; exact Nat.one_pos
  | ghAad =>
    simp only [State.successor] at h
    split at h
    · next hlt => cases h; exact (toNat_add_one_of_lt_nblk hlt).trans_lt hlt
    · exact State.afterAad_inRange h
  | ctrInit =>
    simp only [State.successor] at h
    split at h
    · next htext => cases h; exact htext
    · cases h; exact Nat.one_pos
  | ghInit =>
    simp only [State.successor] at h
    split at h
    · next haad => cases h; exact haad
    · exact State.afterAad_inRange h
  | cleanup => cases h

theorem ksBlock_mem_nextUops {u : Uop} (h : Uop.ksBlock ∈ nextUops u) : u = .ctrInit ∨ u = .xorText := by
  revert h; cases u <;> decide

theorem xorText_mem_nextUops {u : Uop} (h : Uop.xorText ∈ nextUops u) : u = .ksBlock := by
  revert h; cases u <;> decide

/-- From CTR_INIT the text begins with block 0. -/
theorem State.successor_ctrInit {s : State} {i j : BitVec 64} {v : Uop} (h : s.successor .ctrInit i = some (v, j)) :
    j = 0#64 := by
  simp only [State.successor] at h
  split at h <;> cases h <;> rfl

/-- From XOR_TEXT of a text block KS_BLOCK goes on with the next one. -/
theorem State.successor_xorText {s : State} {i j : BitVec 64} (h : s.successor .xorText i = some (.ksBlock, j)) :
    j.toNat = i.toNat + 1 := by
  simp only [State.successor] at h
  split at h
  · next hlt => cases h; exact toNat_add_one_of_lt_nblk hlt
  · cases h

/-! ## The sequencer: STATE (44_aead_orchestrator.md R170) -/

/-- The values of STATE a micro-operation can leave: five set it, the others leave what they find. -/
def statesAfter : Uop → List StateCode
  | .ghInit => [.keystreamApplied]
  | .tagForm => [.tagComputed]
  | .tagEmit => [.sealed]
  | .release => [.opened]
  | .zeroize => [.rejected]
  | u => statesAt u

theorem uopEffect_state_mem {E : Block → Block → Block} {u : Uop} {s : State} (h : s.state ∈ statesAt u) :
    (uopEffect E u s).state ∈ statesAfter u := by
  cases u with
  | deriveH => obtain ⟨-, heffect⟩ | heffect := uopEffect_deriveH_cases E s <;> rw [heffect] <;> exact h
  | ghInit | tagForm | tagEmit | release | zeroize => exact List.mem_cons_self
  | _ => exact h

/-- The STATE a micro-operation leaves is one that whatever follows it can find. -/
theorem statesAfter_subset_statesAt {u v : Uop} (h : v ∈ nextUops u) : statesAfter u ⊆ statesAt v := by
  revert v; cases u <;> decide

/-! ## The sequencer: one step -/

/-- STATE moves on to another value than Rejected, from neither Sealed nor Rejected. -/
theorem State.standing.setState {s : State} (hs : s.standing) {st : StateCode} (hsealed : s.state ≠ .sealed)
    (hrejected : s.state ≠ .rejected) (hst : st ≠ .rejected) : ({ s with state := st } : State).standing := by
  obtain ⟨hbuf, hsub, -, htag, ⟨hcause, hauth⟩, hpar⟩ := hs
  exact ⟨hbuf, hsub, fun h => absurd h hst, fun _ => htag hsealed, ⟨hcause, fun h => absurd (hauth h) hrejected⟩, hpar⟩

/-- A micro-operation in a STATE it can find keeps the clauses that do not read the position. -/
theorem uopEffect_standing {u : Uop} {s : State} (hs : s.standing) (hst : s.state ∈ statesAt u) :
    (uopEffect Config.E u s).standing := by
  cases u with
  | deriveH =>
    obtain ⟨-, heffect⟩ | heffect := uopEffect_deriveH_cases Config.E s
    · rwa [heffect]
    · obtain ⟨hbuf, -, hrest⟩ := hs
      rw [heffect]
      exact ⟨hbuf, fun _ => rfl, hrest⟩
  | xorText =>
    obtain ⟨⟨hnonce, haad, hdin, hdout⟩, hsub, -, hrest⟩ := hs
    have hidle : s.state = .idle := List.mem_singleton.1 hst
    exact ⟨⟨hnonce, haad, hdin, Memory.wf_memWriteBytes _ _ hdout⟩, hsub,
      fun (h : s.state = .rejected) => absurd (hidle.symm.trans h) (by decide), hrest⟩
  | ghInit | tagForm | release =>
    have hfound := List.mem_singleton.1 hst
    exact hs.setState (by rw [hfound]; decide) (by rw [hfound]; decide) (nomatch ·)
  | tagEmit =>
    obtain ⟨hbuf, hsub, -, -, ⟨hcause, hauth⟩, hpar⟩ := hs
    have hfound := List.mem_singleton.1 hst
    exact ⟨hbuf, hsub, (nomatch ·), fun h => absurd rfl h,
      ⟨hcause, fun h => absurd (hfound.symm.trans (hauth h)) (by decide)⟩, hpar⟩
  | zeroize =>
    obtain ⟨⟨hnonce, haad, hdin, -⟩, hsub, -, htag, -, hpar⟩ := hs
    have hfound := List.mem_singleton.1 hst
    exact ⟨⟨hnonce, haad, hdin, rfl⟩, hsub, fun _ _ => rfl, fun _ => htag (by rw [hfound]; decide),
      ⟨⟨(nomatch ·), fun h => absurd rfl h⟩, fun _ => rfl⟩, hpar⟩
  | j096 | nghInit | nghAbsorb | nghLen | j0Take | ctrInit | ksBlock | ghAad | ghCt | ghLen | maskJ0 | tagCmp
  | cleanup => exact hs

theorem uopEffect_run {E : Block → Block → Block} {u : Uop} (hu : u ≠ .cleanup) (s : State) :
    (uopEffect E u s).run = s.run := by
  cases u with
  | deriveH => obtain ⟨-, h⟩ | h := uopEffect_deriveH_cases E s <;> rw [h]
  | cleanup => exact absurd rfl hu
  | _ => rfl

/-- DERIVE_H makes H valid, and no micro-operation drops it. -/
theorem uopEffect_hValid {E : Block → Block → Block} {u : Uop} {s : State} (h : u ≠ .deriveH → s.hValid = true) :
    (uopEffect E u s).hValid = true := by
  cases u with
  | deriveH =>
    obtain ⟨hvalid, heffect⟩ | heffect := uopEffect_deriveH_cases E s
    · rwa [heffect]
    · rw [heffect]
  | _ => exact h (nomatch ·)

theorem State.nonceBlocks_pos {s : State} (h : s.invalidCause = none) : 0 < s.nonceBlocks := by
  have hlen : s.nlen.toNat ≠ 0 := by
    intro hzero
    simp only [State.invalidCause, hzero, if_true] at h
    split_ifs at h
  unfold State.nonceBlocks nblk
  omega

/-- After a micro-operation the state fits the position its successor is. -/
theorem uopEffect_fitsPosition {u v : Uop} {s : State} {i j : BitVec 64} (hs : s.fitsPosition u i)
    (hv : v ∈ nextUops u) (h : (uopEffect Config.E u s).successor u i = some (v, j)) :
    (uopEffect Config.E u s).fitsPosition v j := by
  have hsame := uopEffect_sameCommand Config.E u s
  have hvalid : (uopEffect Config.E u s).invalidCause = none := hsame.invalidCause.trans hs.valid
  refine ⟨?inRange, hvalid, ?stateFits, ?counter, ?keystream, ?subkeyReady⟩
  case inRange =>
    exact State.successor_inRange (State.nonceBlocks_pos hvalid) (hs.inRange.trans_eq (hsame.indexBound u).symm) h
  case stateFits => exact statesAfter_subset_statesAt hv (uopEffect_state_mem hs.stateFits)
  case counter =>
    rintro rfl
    obtain rfl | rfl := ksBlock_mem_nextUops hv
    · rw [State.successor_ctrInit h]; exact (inc32By_zero s.j0).symm
    · rw [State.successor_xorText h]; exact (hs.keystream rfl).1
  case keystream =>
    rintro rfl
    obtain rfl := xorText_mem_nextUops hv
    cases h
    exact ⟨(congrArg inc32 (hs.counter rfl)).trans (inc32_inc32By s.j0 i.toNat), rfl⟩
  case subkeyReady => exact fun _ => uopEffect_hValid hs.subkeyReady

/-- CLEANUP leaves the core at rest. -/
theorem cleanup_atRest {s : State} (hs : s.standing) (hst : s.state ∈ statesAt .cleanup) : (cleanup s).atRest := by
  obtain ⟨-, -, hblank, -⟩ := hs
  have hgate (hsealed : s.state ≠ .sealed) (hopened : s.state ≠ .opened) : ∀ off, s.doutByte off = 0#8 :=
    hblank (by simpa [statesAt, hsealed, hopened] using hst)
  exact ⟨⟨rfl, rfl⟩, ⟨rfl, rfl, rfl, rfl, rfl, rfl, rfl⟩, hgate, List.mem_cons_of_mem _ hst⟩

theorem seqStep_inv {s : State} (hr : s.run = true) (hs : s.Inv) : (seqStep Config.E s).Inv := by
  obtain ⟨u, hu⟩ := hs.position hr
  obtain ⟨hstanding, hfits⟩ := (State.inv_iff_running hr hu).1 hs
  have hstanding' := uopEffect_standing hstanding hfits.stateFits
  rw [seqStep_of_ofCode (hu ▸ Uop.ofCode_code u)]
  by_cases hcleanup : u = .cleanup
  · subst hcleanup
    rw [State.advance_cleanup]
    exact (State.inv_iff_idle rfl).2 ⟨hstanding', cleanup_atRest hstanding hfits.stateFits⟩
  · obtain ⟨v, hv, j, hnext⟩ := State.successor_exists hcleanup (uopEffect Config.E u s) s.idx
    have hrun : ((uopEffect Config.E u s).setSeq v j).run = true := (uopEffect_run hcleanup s).trans hr
    obtain ⟨hrange, hvalid, hstate, hcounter, hkeystream, hsubkey⟩ := uopEffect_fitsPosition hfits hv hnext
    rw [State.advance_of_successor hnext]
    exact (State.inv_iff_running hrun rfl).2
      ⟨hstanding', hrange, hvalid, hstate, hcounter, hkeystream, hsubkey⟩

theorem command_inv {s : State} (hs : s.Inv) (hr : s.run = false) (w : BitVec 32) : (command Config.E w s).Inv :=
  runSeq_keeps (fun _ => seqStep_inv) _ (launch_inv hs hr w)

/-! ## The step -/

theorem State.hostOp_inv {s t : State} {r : Request} (hr : s.run = false) (ht : t.Inv) : (s.hostOp r t).Inv := by
  rwa [State.hostOp_idle hr]

/-- The invariant does not read the operations issued and not yet performed. -/
theorem State.withPending_inv {s : State} {rs : List Request} : (s.withPending rs).Inv ↔ s.Inv := Iff.rfl

/-- An operation issued to a core at rest is encoded as a request, so it is no micro-operation. The whole commands, the
launch, VALIDATE and the writes go by their lemmas; a unit operation and a host read write only `unitOut` and `rdLog`,
which the invariant does not read. -/
theorem exec_inv {i : Instr} {r : Request} {s t : State} (hs : s.Inv) (hr : s.run = false)
    (hi : encode i = .request r) (h : exec i s = .next t) : t.Inv := by
  cases i with
  | sealCmd _ _ | openCmd _ _ => cases h; exact State.hostOp_inv hr (command_inv hs hr _)
  | wrCmd w => cases h; exact State.hostOp_inv hr (launch_inv hs hr w)
  | validate => cases h; exact validate_inv hs hr
  | reset => cases h; exact State.resetEvent_inv hs.parameterInRange
  | wrKey v => cases h; exact State.hostOp_inv hr (State.writeKey_inv hs hr v)
  | wrNlen n => cases h; exact State.hostOp_inv hr (State.writeInputRegisters_inv hs hr n s.alen s.tlen s.tagin)
  | wrAlen n => cases h; exact State.hostOp_inv hr (State.writeInputRegisters_inv hs hr s.nlen n s.tlen s.tagin)
  | wrTlen n => cases h; exact State.hostOp_inv hr (State.writeInputRegisters_inv hs hr s.nlen s.alen n s.tagin)
  | wrTagin g => cases h; exact State.hostOp_inv hr (State.writeInputRegisters_inv hs hr s.nlen s.alen s.tlen g)
  | wrb sp off b => cases h; exact State.hostOp_inv hr (State.hostWriteByte_inv hs sp off.toNat b)
  | wrStatus _ | wrTagout _ _ => cases h; exact State.hostOp_inv hr hs
  | rd _ | rdKey | rdbIn _ _ | rdbDout _ => cases h; exact State.hostOp_inv hr hs
  | gfmul _ _ | inc32 _ | ecall _ => cases h; exact hs
  | deriveH | j096 | nghInit | nghAbsorb | nghLen | j0Take | ctrInit | ksBlock | xorText | ghInit | ghAad | ghCt | ghLen
  | maskJ0 | tagForm | tagEmit | tagCmp | release | zeroize | cleanup => cases hi

theorem step_inv {s t : State} (hs : s.Inv) (h : step s = .next t) : t.Inv := by
  obtain ⟨-, -, rfl⟩ | ⟨-, -, rfl⟩ | ⟨hr, -, -, rfl⟩ | ⟨hr, r, rest, i, -, hi, hexec⟩ := step_next_cases h
  · exact hs
  · exact State.resetEvent_inv hs.parameterInRange
  · exact seqStep_inv hr hs
  · have hrest : (s.withPending rest).Inv := State.withPending_inv.2 hs
    obtain hcode | ⟨w, -, rfl⟩ := requestInstr_cases hi
    · exact exec_inv hrest hr hcode hexec
    · exact exec_inv hrest hr rfl hexec

/-! ## What a host read returns (10_state.md R34) -/

theorem State.sameToHost.regRead {s r : State} (h : s.sameToHost r) (reg : Nat) : s.regRead reg = r.regRead reg := by
  obtain ⟨hcmd, hstatus, hnlen, halen, htlen, htagin, htagout, -, -⟩ := h
  unfold State.regRead
  split
  case h_1 => rw [hcmd]
  case h_2 => rw [hstatus]
  case h_4 => rw [hnlen]
  case h_5 => rw [halen]
  case h_6 => rw [htlen]
  case h_7 => exact htagin
  case h_8 => exact htagout
  case h_3 | h_9 => rfl

/-- A host read performed in two idle states answers alike where it reads the same value. -/
theorem hostRead_alike {i : Instr} {q : Request} {s r : State} {v w : Block} (hs : s.run = false) (hr : r.run = false)
    (his : exec i s = .next (s.hostOp q (s.answer v))) (hir : exec i r = .next (r.hostOp q (r.answer w))) (h : v = w) :
    ∃ x : Block, exec i s = .next { s with rdLog := x :: s.rdLog } ∧
      exec i r = .next { r with rdLog := x :: r.rdLog } := by
  rw [State.hostOp_idle hs] at his
  rw [State.hostOp_idle hr, ← h] at hir
  exact ⟨v, his, hir⟩

/-! ## The obligations -/

/-- Settles O52: a step waits, resets, runs a micro-operation or performs an issued operation, and each keeps the
invariant. -/
theorem stepKeepsTheInvariant : Obligations.StepKeepsTheInvariant := fun _ _ hs h => step_inv hs h

/-- Settles O55: of the two instructions that write the key registers, WR KEY comes only from a write of register 2, and
RESET only from a reset that strikes. -/
theorem keyChangesOnlyByHostOrReset : Obligations.KeyChangesOnlyByHostOrReset := by
  intro s t h
  obtain ⟨-, -, rfl⟩ | ⟨hr, harrived, rfl⟩ | ⟨-, -, -, rfl⟩ | ⟨hr, r, rest, i, hpending, hi, hexec⟩ := step_next_cases h
  · exact .inl ⟨rfl, rfl⟩
  · exact .inr (.inr ⟨.inl ⟨hr, List.contains_iff_mem.1 harrived⟩, rfl, rfl⟩)
  · exact .inl (seqStep_sameKey Config.E s)
  · obtain hsame | ⟨v, rfl, hkey⟩ | ⟨rfl, hkey⟩ := exec_key_cases hexec
    · exact .inl hsame
    · obtain hcode | ⟨_, -, hcmd⟩ := requestInstr_cases hi
      · cases hcode; exact .inr (.inl ⟨hr, v, rest, hpending, hkey⟩)
      · cases hcmd
    · obtain hcode | ⟨_, -, hcmd⟩ := requestInstr_cases hi
      · cases hcode; exact .inr (.inr ⟨.inr ⟨hr, rest, hpending⟩, hkey⟩)
      · cases hcmd

/-- Settles O58: RD KEY reads zero, and every other read a value that the two states share. -/
theorem secretsHaveNoReadPath : Obligations.SecretsHaveNoReadPath := by
  intro s r hs hr hsame i hi
  have hregs := hsame.regRead
  obtain ⟨-, -, -, -, -, -, -, hin, hdout⟩ := hsame
  obtain rfl | ⟨reg, rfl⟩ | ⟨sp, off, rfl⟩ | ⟨off, rfl⟩ := hi
  · exact hostRead_alike hs hr rfl rfl rfl
  · exact hostRead_alike hs hr rfl rfl (hregs reg)
  · exact hostRead_alike hs hr rfl rfl (congrArg (BitVec.setWidth 128) (hin sp off.toNat))
  · exact hostRead_alike hs hr rfl rfl (congrArg (BitVec.setWidth 128) (hdout off.toNat))

/-- Settles O41: every field of the reset state by its definition. -/
theorem stateAfterReset : Obligations.StateAfterReset :=
  ⟨rfl, rfl, rfl, rfl, rfl, rfl, rfl, rfl, rfl, rfl, rfl, rfl, rfl, rfl, rfl, rfl, rfl, rfl, rfl, rfl, rfl, rfl, rfl,
    rfl, rfl, fun _ => rfl⟩

/-- Settles O51: the state after reset is, in every field the invariant reads, that of a reset event. -/
theorem invariantHoldsAtReset : Obligations.InvariantHoldsAtReset :=
  ⟨State.resetEvent_inv (s := State.reset) (Nat.le_refl _),
    fun n hn => State.resetEvent_inv (s := { State.reset with maxNonceBytes := n }) hn⟩

end Sys2Proof.Machine

/-! PROOFS. The statement of 20_memory.md: every step keeps the buffers in canonical form. -/

namespace Sys2Proof.Machine

open Sys2Proof

/-! ## The writers of a buffer -/

/-- The core writes one buffer, DOUT (20_memory.md R43). -/
theorem State.memWriteDout_buffersCanonical {s : State} (hs : s.buffersCanonical) (off : Nat) (bs : List Byte) :
    (s.memWriteDout off bs).buffersCanonical := by
  obtain ⟨hnonce, haad, hdin, hdout⟩ := hs
  exact ⟨hnonce, haad, hdin, Memory.wf_memWriteBytes bs off hdout⟩

theorem State.clearDout_buffersCanonical {s : State} (hs : s.buffersCanonical) : s.clearDout.buffersCanonical := by
  obtain ⟨hnonce, haad, hdin, -⟩ := hs
  exact ⟨hnonce, haad, hdin, Memory.wf_nil _⟩

/-- The host writes the three input buffers and not DOUT (45_host_access.md R197, R198). -/
theorem State.hostWriteByte_buffersCanonical {s : State} (hs : s.buffersCanonical) (sp : Space) (off : Nat) (b : Byte) :
    (s.hostWriteByte sp off b).buffersCanonical := by
  obtain ⟨hnonce, haad, hdin, hdout⟩ := hs
  cases sp with
  | nonce => exact ⟨Memory.wf_memWrite off b hnonce, haad, hdin, hdout⟩
  | aad => exact ⟨hnonce, Memory.wf_memWrite off b haad, hdin, hdout⟩
  | din => exact ⟨hnonce, haad, Memory.wf_memWrite off b hdin, hdout⟩
  | dout => exact ⟨hnonce, haad, hdin, hdout⟩

/-- A reset lists no byte of any buffer (70_reset_and_hazards.md R240). -/
theorem State.resetEvent_buffersCanonical (s : State) : s.resetEvent.buffersCanonical :=
  ⟨Memory.wf_nil _, Memory.wf_nil _, Memory.wf_nil _, Memory.wf_nil _⟩

/-! ## The sequencer and the commands -/

/-- XOR_TEXT writes DOUT and ZEROIZE clears it; no other micro-operation writes a buffer. -/
theorem uopEffect_buffersCanonical (E : Block → Block → Block) (u : Uop) {s : State} (hs : s.buffersCanonical) :
    (uopEffect E u s).buffersCanonical := by
  cases u with
  | xorText => exact State.memWriteDout_buffersCanonical hs _ _
  | zeroize => exact (State.clearDout_buffersCanonical hs :)
  | deriveH => obtain ⟨-, heffect⟩ | heffect := uopEffect_deriveH_cases E s <;> rw [heffect] <;> exact hs
  | j096 | nghInit | nghAbsorb | nghLen | j0Take | ctrInit | ksBlock | ghInit | ghAad | ghCt | ghLen | maskJ0 | tagForm
  | tagEmit | tagCmp | release | cleanup => exact hs

theorem State.advance_buffersCanonical {s : State} {u : Uop} {i : BitVec 64} :
    (s.advance u i).buffersCanonical ↔ s.buffersCanonical := by
  simp only [State.buffersCanonical, State.advance_nonce, State.advance_aad, State.advance_din, State.advance_dout]

theorem seqStep_buffersCanonical (E : Block → Block → Block) {s : State} (hs : s.buffersCanonical) :
    (seqStep E s).buffersCanonical := by
  unfold seqStep
  split
  · next u _ => exact State.advance_buffersCanonical.2 (uopEffect_buffersCanonical E u hs)
  · exact hs

theorem validate_buffersCanonical {s : State} (hs : s.buffersCanonical) : (validate s).buffersCanonical := by
  unfold validate
  split <;> exact hs

/-- Of the buffers a launch clears DOUT, refused or accepted (45_host_access.md R196). -/
theorem launch_buffersCanonical (w : BitVec 32) {s : State} (hs : s.buffersCanonical) :
    (launch w s).buffersCanonical := by
  have hcleared := State.clearDout_buffersCanonical hs
  obtain ⟨c, hrefused⟩ | haccepted := launch_cases w s
  · rw [hrefused]; exact hcleared
  · rw [haccepted]; exact hcleared

theorem command_buffersCanonical (E : Block → Block → Block) (w : BitVec 32) {s : State} (hs : s.buffersCanonical) :
    (command E w s).buffersCanonical :=
  runSeq_keeps (P := State.buffersCanonical) (fun _ _ hu => seqStep_buffersCanonical E hu) _
    (launch_buffersCanonical w hs)

/-! ## The instructions and the step -/

theorem State.hostOp_buffersCanonical {s t : State} (r : Request) (hs : s.buffersCanonical)
    (ht : t.buffersCanonical) : (s.hostOp r t).buffersCanonical :=
  State.hostOp_of (P := State.buffersCanonical) hs ht

/-- WRB, the commands, VALIDATE, RESET and the micro-operations that write DOUT or branch go by their lemmas; any other
instruction leaves the buffers as they are. -/
theorem exec_buffersCanonical {i : Instr} {s t : State} (hs : s.buffersCanonical) (h : exec i s = .next t) :
    t.buffersCanonical := by
  cases i with
  | sealCmd _ _ | openCmd _ _ => cases h; exact State.hostOp_buffersCanonical _ hs (command_buffersCanonical _ _ hs)
  | wrCmd w => cases h; exact State.hostOp_buffersCanonical _ hs (launch_buffersCanonical w hs)
  | validate => cases h; exact validate_buffersCanonical hs
  | reset => cases h; exact State.resetEvent_buffersCanonical s
  | wrb sp off b =>
    cases h
    exact State.hostOp_buffersCanonical _ hs (State.hostWriteByte_buffersCanonical hs sp off.toNat b)
  | rd _ | rdKey | rdbIn _ _ | rdbDout _ | wrKey _ | wrNlen _ | wrAlen _ | wrTlen _ | wrTagin _ | wrStatus _
  | wrTagout _ _ => cases h; exact State.hostOp_buffersCanonical _ hs hs
  | deriveH => cases h; exact uopEffect_buffersCanonical Config.E .deriveH hs
  | xorText => cases h; exact uopEffect_buffersCanonical Config.E .xorText hs
  | zeroize => cases h; exact uopEffect_buffersCanonical Config.E .zeroize hs
  | gfmul _ _ | inc32 _ | ecall _ | j096 | nghInit | nghAbsorb | nghLen | j0Take | ctrInit | ksBlock | ghInit | ghAad
  | ghCt | ghLen | maskJ0 | tagForm | tagEmit | tagCmp | release | cleanup => cases h; exact hs

/-- The canonical form does not read the operations issued and not yet performed. -/
theorem State.withPending_buffersCanonical {s : State} {rs : List Request} :
    (s.withPending rs).buffersCanonical ↔ s.buffersCanonical := Iff.rfl

/-- Settles O53: a step waits, resets, runs a micro-operation or performs an issued operation, and each keeps the
canonical form. -/
theorem stepKeepsBuffersCanonical : Obligations.StepKeepsBuffersCanonical := by
  intro s t hs h
  obtain ⟨-, -, rfl⟩ | ⟨-, -, rfl⟩ | ⟨-, -, -, rfl⟩ | ⟨-, r, rest, i, -, -, hexec⟩ := step_next_cases h
  · exact hs
  · exact State.resetEvent_buffersCanonical s.takeReset
  · exact seqStep_buffersCanonical Config.E hs
  · exact exec_buffersCanonical (State.withPending_buffersCanonical.2 hs) hexec

end Sys2Proof.Machine

/-! PROOFS. The statements of 30_encoding.md: decoding and encoding are inverse, the command words, and the layout of
STATUS. -/

namespace Sys2Proof.Machine

open Sys2Proof

/-! ## The fields of a command word made of fields (R60) -/

@[simp] theorem cmdOp_cmdWord (op tagbits klen : Byte) : cmdOp (cmdWord op tagbits klen) = op :=
  BitVec.extractLsb'_append_eq_right

@[simp] theorem cmdTagbits_cmdWord (op tagbits klen : Byte) : cmdTagbits (cmdWord op tagbits klen) = tagbits := by
  rw [cmdTagbits, cmdWord, BitVec.extractLsb'_append_eq_of_le (by decide), BitVec.extractLsb'_append_eq_right]

@[simp] theorem cmdKlen_cmdWord (op tagbits klen : Byte) : cmdKlen (cmdWord op tagbits klen) = klen := by
  rw [cmdKlen, cmdWord, BitVec.extractLsb'_append_eq_of_le (by decide), BitVec.extractLsb'_append_eq_of_le (by decide),
    BitVec.extractLsb'_append_eq_right]

@[simp] theorem cmdRsv_cmdWord (op tagbits klen : Byte) : cmdRsv (cmdWord op tagbits klen) = 0#8 := by
  rw [cmdRsv, cmdWord, BitVec.extractLsb'_append_eq_of_le (by decide), BitVec.extractLsb'_append_eq_of_le (by decide),
    BitVec.extractLsb'_append_eq_left]

/-! ## The decoder of command words, case by case (R60, R67(a)) -/

theorem decodeCmd_seal {w : BitVec 32} (hrsv : cmdRsv w = 0#8) (hop : cmdOp w = opSeal) :
    decodeCmd w = .ok (.sealCmd (cmdTagbits w) (cmdKlen w)) := by
  rw [decodeCmd, if_neg (not_not.2 hrsv), if_pos hop]

theorem decodeCmd_open {w : BitVec 32} (hrsv : cmdRsv w = 0#8) (hop : cmdOp w = opOpen) :
    decodeCmd w = .ok (.openCmd (cmdTagbits w) (cmdKlen w)) := by
  have hseal : cmdOp w ≠ opSeal := by rw [hop]; decide
  rw [decodeCmd, if_neg (not_not.2 hrsv), if_neg hseal, if_pos hop]

theorem decodeCmd_reserved {w : BitVec 32} (h : cmdRsv w ≠ 0#8 ∨ (cmdOp w ≠ opSeal ∧ cmdOp w ≠ opOpen)) :
    decodeCmd w = .rejected (.reservedCommand w) := by
  obtain hrsv | ⟨hseal, hopen⟩ := h
  · rw [decodeCmd, if_pos hrsv]
  · rw [decodeCmd, if_neg hseal, if_neg hopen, ite_self]

/-! ## Decoding what was encoded -/

/-- A value widened to the host's 128 bits passes the width check and is narrowed back to itself (R62). -/
theorem narrow_widen {n : Nat} (hn : n ≤ 128) (v : BitVec n) (k : BitVec n → Instr) (e : DecodeError) :
    (if (v.setWidth 128).toNat < 2 ^ n then Decoded.ok (k ((v.setWidth 128).setWidth n)) else .rejected e) =
      .ok (k v) := by
  have hfits : (v.setWidth 128).toNat < 2 ^ n := by rw [BitVec.toNat_setWidth_of_le hn]; exact v.isLt
  rw [if_pos hfits, BitVec.setWidth_setWidth_of_le v hn, BitVec.setWidth_eq]

/-- A write to register number 7 or above is the ignored write (45_host_access.md R195). -/
theorem decodeWr_of_seven_le {reg : Nat} (h : 7 ≤ reg) (v : Block) : decodeWr reg v = .ok (.wrTagout reg v) := by
  obtain ⟨n, rfl⟩ := Nat.exists_eq_add_of_le' h
  rfl

@[simp] theorem decode_phase_code (u : Uop) : decode (.phase u.code) = .ok u.toInstr := by
  simp only [decode, decodePhase, Uop.ofCode_code]

@[simp] theorem encode_toInstr (u : Uop) : encode u.toInstr = .phase u.code := by cases u <;> rfl

/-- A command word keeps its fields, a micro-operation its code, a narrow register's value its bits; the two rows that
share an operation with another are told apart by the register number. -/
theorem decode_encode {i : Instr} (h : i.wellFormed = true) : decode (encode i) = .ok i := by
  cases i with
  | sealCmd tagbits klen =>
    have hdecode := decodeCmd_seal (cmdRsv_cmdWord opSeal tagbits klen) (cmdOp_cmdWord opSeal tagbits klen)
    rwa [cmdTagbits_cmdWord, cmdKlen_cmdWord] at hdecode
  | openCmd tagbits klen =>
    have hdecode := decodeCmd_open (cmdRsv_cmdWord opOpen tagbits klen) (cmdOp_cmdWord opOpen tagbits klen)
    rwa [cmdTagbits_cmdWord, cmdKlen_cmdWord] at hdecode
  | wrCmd v => exact narrow_widen (by decide) v .wrCmd (.valueTooWide 0)
  | wrStatus v => exact narrow_widen (by decide) v .wrStatus (.valueTooWide 1)
  | wrNlen v => exact narrow_widen (by decide) v .wrNlen (.valueTooWide 3)
  | wrAlen v => exact narrow_widen (by decide) v .wrAlen (.valueTooWide 4)
  | wrTlen v => exact narrow_widen (by decide) v .wrTlen (.valueTooWide 5)
  | wrTagout reg v => exact decodeWr_of_seven_le (of_decide_eq_true h) v
  | rd reg => exact if_neg (bne_iff_ne.1 h)
  | rdbIn sp off => cases sp <;> rfl
  | deriveH | j096 | nghInit | nghAbsorb | nghLen | j0Take | ctrInit | ksBlock | xorText | ghInit | ghAad | ghCt | ghLen
  | maskJ0 | tagForm | tagEmit | tagCmp | release | zeroize | cleanup => rfl
  | validate | gfmul _ _ | inc32 _ | ecall _ => rfl
  | rdKey | wrKey _ | wrTagin _ | wrb _ _ _ | rdbDout _ | reset => rfl

/-- Settles O2, one case per row of the table. -/
theorem decodeInvertsEncode : Obligations.DecodeInvertsEncode := fun _ h => decode_encode h

/-! ## What decodes -/

theorem Uop.toInstr_wellFormed (u : Uop) : u.toInstr.wellFormed = true := by cases u <;> rfl

/-- A PHASE value that decodes is the code of a micro-operation (R66). -/
theorem decode_phase_ok {c : Byte} {i : Instr} (h : decode (.phase c) = .ok i) :
    ∃ u : Uop, c = u.code ∧ i = u.toInstr := by
  simp only [decode, decodePhase] at h
  split at h
  · next u hu => cases h; exact ⟨u, Uop.ofCode_eq_some hu, rfl⟩
  · cases h

theorem wellFormed_of_decodeCmd {w : BitVec 32} {i : Instr} (h : decodeCmd w = .ok i) : i.wellFormed = true := by
  unfold decodeCmd at h
  split at h
  · cases h
  · split at h
    · cases h; rfl
    · split at h <;> cases h
      rfl

/-- The register numbers 0 to 6 have rows of their own, so the ignored write is left for 7 and above (R62). -/
theorem wellFormed_of_decodeWr {reg : Nat} {v : BitVec 128} {i : Instr} (h : decodeWr reg v = .ok i) :
    i.wellFormed = true := by
  unfold decodeWr at h
  split at h
  case h_1 | h_2 | h_4 | h_5 | h_6 => split at h <;> cases h; rfl
  case h_3 | h_7 => cases h; rfl
  case h_8 hne0 hne1 hne2 hne3 hne4 hne5 hne6 =>
    have hreg : 7 ≤ reg := by
      rw [imp_false] at hne0 hne1 hne2 hne3 hne4 hne5 hne6
      omega
    cases h
    exact decide_eq_true hreg

theorem wellFormed_of_decodeInvoke {c : Byte} {a b : Block} {i : Instr} (h : decodeInvoke c a b = .ok i) :
    i.wellFormed = true := by
  unfold decodeInvoke at h
  split at h
  case h_1 | h_3 | h_4 => split at h <;> cases h; rfl
  case h_2 => cases h; rfl
  case h_5 => cases h

theorem wellFormed_of_decodeRequest {r : Request} {i : Instr} (h : decodeRequest r = .ok i) : i.wellFormed = true := by
  cases r with
  | cmd w => exact wellFormed_of_decodeCmd h
  | rd reg =>
    simp only [decodeRequest, decodeRd] at h
    split at h
    · cases h; rfl
    · next hreg => cases h; exact bne_iff_ne.2 hreg
  | wr reg v => exact wellFormed_of_decodeWr h
  | wrb _ _ _ | reset => cases h; rfl
  | rdb sp off => cases sp <;> cases h <;> rfl
  | invoke c a b => exact wellFormed_of_decodeInvoke h

/-- Settles O3: a PHASE value by the codes of the micro-operations, an issued operation by the kind of request. -/
theorem encodeInvertsDecode : Obligations.EncodeInvertsDecode := by
  intro c i h
  cases c with
  | phase c =>
    obtain ⟨u, rfl, rfl⟩ := decode_phase_ok h
    exact ⟨Uop.toInstr_wellFormed u, encode_toInstr u⟩
  | request r => exact ⟨wellFormed_of_decodeRequest h, encode_of_decodeRequest h⟩

/-! ## The fields of a command word as numbers (R60) -/

theorem cmdOp_toNat (w : BitVec 32) : (cmdOp w).toNat = w.toNat % 256 := by
  rw [cmdOp, BitVec.extractLsb'_toNat, Nat.shiftRight_zero]

theorem cmdTagbits_eq_ofNat (w : BitVec 32) : cmdTagbits w = BitVec.ofNat 8 (w.toNat / 2 ^ 8) := by
  rw [← Nat.shiftRight_eq_div_pow]; rfl

theorem cmdKlen_eq_ofNat (w : BitVec 32) : cmdKlen w = BitVec.ofNat 8 (w.toNat / 2 ^ 16) := by
  rw [← Nat.shiftRight_eq_div_pow]; rfl

/-- RSV needs no bound from above: it is the top byte of the word. -/
theorem cmdRsv_toNat (w : BitVec 32) : (cmdRsv w).toNat = w.toNat / 2 ^ 24 := by
  have hw := w.isLt
  rw [cmdRsv, BitVec.extractLsb'_toNat, Nat.shiftRight_eq_div_pow]
  omega

theorem cmdRsv_eq_zero_iff {w : BitVec 32} : cmdRsv w = 0#8 ↔ w.toNat / 2 ^ 24 = 0 := by
  rw [← BitVec.toNat_inj, cmdRsv_toNat]; rfl

theorem cmdOp_eq_opSeal_iff {w : BitVec 32} : cmdOp w = opSeal ↔ w.toNat % 256 = 1 := by
  rw [← BitVec.toNat_inj, cmdOp_toNat]; rfl

theorem cmdOp_eq_opOpen_iff {w : BitVec 32} : cmdOp w = opOpen ↔ w.toNat % 256 = 2 := by
  rw [← BitVec.toNat_inj, cmdOp_toNat]; rfl

/-! ## Reserved command words (R67(a), 60_exceptions.md R214) -/

/-- The first check of VALIDATE refuses a reserved word, whatever the other registers hold. -/
theorem launch_reserved {w : BitVec 32} (h : cmdRsv w ≠ 0#8 ∨ (cmdOp w ≠ opSeal ∧ cmdOp w ≠ opOpen)) (s : State) :
    launch w s = (s.beginLaunch w).takeException .invalidInput .reservedCmd :=
  launch_refused (if_pos h)

/-- Settles O4: OP and RSV decide the decoder's case and VALIDATE's first check alike. -/
theorem everyCommandWordSealsOpensOrIsRefused : Obligations.EveryCommandWordSealsOpensOrIsRefused := by
  intro w s hrun
  rw [← cmdTagbits_eq_ofNat, ← cmdKlen_eq_ofNat]
  simp only [ne_eq, ← cmdRsv_eq_zero_iff, ← cmdOp_eq_opSeal_iff, ← cmdOp_eq_opOpen_iff]
  refine ⟨decodeCmd_seal, decodeCmd_open, fun hreserved => ⟨decodeCmd_reserved hreserved, ?_⟩⟩
  calc exec (.wrCmd w) s
      = .next (launch w s) := congrArg Host.Outcome.next (State.hostOp_idle hrun _ _)
    _ = .next ((s.beginLaunch w).takeException .invalidInput .reservedCmd) := by rw [launch_reserved hreserved]

/-! ## Words written out from the spec -/

/-- Settles O1: the words that decode are the codes of those operations; the three that do not are reserved commands or
no PHASE (R67(a), R67(e)). -/
theorem wordsOfTheSpecDecode : Obligations.WordsOfTheSpecDecode :=
  ⟨decode_encode (i := .sealCmd 0x80#8 0x10#8) rfl, decode_encode (i := .openCmd 0x60#8 0x10#8) rfl,
    decodeCmd_reserved (w := 0x01108001#32) (.inl (by decide)),
    decodeCmd_reserved (w := 0x00108003#32) (.inr (by decide)),
    decode_phase_code .deriveH, decode_phase_code .ghCt, decode_phase_code .cleanup, rfl,
    decode_encode (i := .gfmul 1#128 2#128) rfl, decode_encode (i := .wrTlen 19#64) rfl, decode_encode (i := .rdKey) rfl⟩

/-! ## The STATUS word (R63, R64, R65) -/

/-- The value of two fields side by side. -/
theorem toNat_append_eq_mul_add {m n : Nat} (x : BitVec m) (y : BitVec n) :
    (x ++ y).toNat = 2 ^ n * x.toNat + y.toNat := by
  rw [BitVec.toNat_append, Nat.shiftLeft_eq, Nat.mul_comm, ← Nat.two_pow_add_eq_or_of_lt y.isLt]

/-- The fields of STATUS by their place. -/
theorem State.status_toNat (s : State) :
    s.status.toNat = s.state.code.toNat + 2 ^ 4 * s.err.code.toNat + 2 ^ 8 * s.cause.code.toNat
      + 2 ^ 16 * s.keyValid.toNat + 2 ^ 17 * s.hValid.toNat := by
  simp only [State.status, toNat_append_eq_mul_add, BitVec.toNat_ofBool, BitVec.toNat_ofNat]
  omega

/-- No code of STATE above that of Rejected (R64). -/
theorem StateCode.code_toNat_le (c : StateCode) : c.code.toNat ≤ 5 := by cases c <;> decide

/-- No code of ERR above that of AuthFailure (R65). -/
theorem ErrKind.code_toNat_le (e : ErrKind) : e.code.toNat ≤ 2 := by cases e <;> decide

/-- No code of CAUSE above that of NONCE_TOO_LONG (R65). -/
theorem Cause.code_toNat_le (c : Cause) : c.code.toNat ≤ 7 := by cases c <;> decide

/-- A field of STATUS, read at its place, is the code of what the state holds there. -/
theorem State.status_fields (s : State) :
    s.status.toNat % 2 ^ 3 = s.state.code.toNat ∧ s.status.toNat / 2 ^ 4 % 2 ^ 2 = s.err.code.toNat ∧
      s.status.toNat / 2 ^ 8 % 2 ^ 4 = s.cause.code.toNat := by
  have hstate := s.state.code.isLt
  have herr := s.err.code.isLt
  have hcause := s.cause.code.isLt
  rw [State.status_toNat]
  omega

/-- Settles O33: the layout as a sum of places, the codes by definition, and each field read back from its place. -/
theorem statusLayout : Obligations.StatusLayout := by
  refine ⟨State.status_toNat, rfl, rfl, rfl, rfl, rfl, rfl, rfl, rfl, rfl, rfl, rfl, rfl, rfl, rfl, rfl, rfl, rfl,
    fun s => ?_⟩
  obtain ⟨hstate, herr, hcause⟩ := s.status_fields
  rw [hstate, herr, hcause]
  exact ⟨s.state.code_toNat_le, s.err.code_toNat_le, s.cause.code_toNat_le⟩

end Sys2Proof.Machine

/-! PROOFS. The statements of 40_gf128_multiplier.md: MULX, GFMUL as the product modulo P(x), and the laws of GFMUL. All
three are read off in the ring of the polynomials modulo P(x), in which a Block is one element and no other Block is. -/

namespace Sys2Proof.Machine

open Sys2Proof Polynomial

/-! ## The polynomial of a Block (R80, R81) -/

/-- R80: `V{i}` is the coefficient of `x^i`, and there is none above `x^127`. -/
theorem blockPoly_coeff (v : Block) (i : Nat) : (blockPoly v).coeff i = if v.getMsbD i then 1 else 0 := by
  simp only [blockPoly, finsetSum_coeff, BitVec.getMsbD, apply_ite (fun p : (ZMod 2)[X] => p.coeff i), coeff_X_pow,
    coeff_zero]
  by_cases hi : i < 128
  · rw [Finset.sum_eq_single_of_mem i (Finset.mem_range.2 hi) fun j _ hj => by simp [hj.symm]]
    simp [hi]
  · rw [Finset.sum_eq_zero fun j hj => by have := Finset.mem_range.1 hj; simp [show i ≠ j by omega]]
    simp [hi]

theorem blockPoly_injective : Function.Injective blockPoly := by
  intro v w h
  refine BitVec.eq_of_getMsbD_eq fun i _ => ?_
  have hcoeff : (blockPoly v).coeff i = (blockPoly w).coeff i := by rw [h]
  rw [blockPoly_coeff, blockPoly_coeff] at hcoeff
  cases hv : v.getMsbD i <;> cases hw : w.getMsbD i <;> simp [hv, hw] at hcoeff ⊢

theorem blockPoly_degree_lt (v : Block) : (blockPoly v).degree < (128 : ℕ) := by
  refine (degree_lt_iff_coeff_zero _ 128).2 fun i hi => ?_
  rw [blockPoly_coeff, BitVec.getMsbD_of_ge _ _ hi, if_neg Bool.false_ne_true]

theorem blockPoly_zero : blockPoly 0#128 = 0 := by
  ext i
  simp [blockPoly_coeff]

/-- R81: addition is the exclusive or of the Blocks. -/
theorem blockPoly_xor (v w : Block) : blockPoly (v ^^^ w) = blockPoly v + blockPoly w := by
  ext i
  rw [coeff_add, blockPoly_coeff, blockPoly_coeff, blockPoly_coeff, BitVec.getMsbD_xor]
  cases v.getMsbD i <;> cases w.getMsbD i <;> decide

/-- A Block with the one bit `{i}` set is `x^i`. -/
theorem blockPoly_twoPow {i : Nat} (hi : i < 128) : blockPoly (BitVec.twoPow 128 (127 - i)) = X ^ i := by
  ext j
  rw [blockPoly_coeff, coeff_X_pow]
  congr 1
  simp only [BitVec.getMsbD, BitVec.getLsbD_twoPow, Bool.and_eq_true, decide_eq_true_eq, eq_iff_iff]
  omega

theorem blockPoly_one : blockPoly 0x80000000000000000000000000000000#128 = 1 :=
  blockPoly_twoPow (i := 0) (by decide)

theorem blockPoly_x : blockPoly 0x40000000000000000000000000000000#128 = X :=
  (blockPoly_twoPow (i := 1) (by decide)).trans (pow_one X)

/-! ## The reduction polynomial (R88) -/

theorem blockPoly_rConst : blockPoly rConst = X ^ 7 + X ^ 2 + X + 1 := by
  have hbits : rConst = BitVec.twoPow 128 (127 - 7) ^^^ BitVec.twoPow 128 (127 - 2) ^^^
      0x40000000000000000000000000000000#128 ^^^ 0x80000000000000000000000000000000#128 := BitVec.eq_of_toNat_eq rfl
  rw [hbits, blockPoly_xor, blockPoly_xor, blockPoly_xor, blockPoly_twoPow (by decide), blockPoly_twoPow (by decide),
    blockPoly_x, blockPoly_one]

theorem fieldModulus_eq : fieldModulus = X ^ 128 + blockPoly rConst := by
  unfold fieldModulus
  rw [blockPoly_rConst]
  simp only [add_assoc]

theorem fieldModulus_monic : fieldModulus.Monic := by
  rw [fieldModulus_eq]
  exact monic_X_pow_add (blockPoly_degree_lt rConst)

theorem fieldModulus_degree : fieldModulus.degree = (128 : ℕ) := by
  rw [fieldModulus_eq]
  have hlt : (blockPoly rConst).degree < (X ^ 128 : (ZMod 2)[X]).degree := by
    rw [degree_X_pow]
    exact blockPoly_degree_lt rConst
  rw [degree_add_eq_left_of_degree_lt hlt, degree_X_pow]

/-! ## A Block as an element of the field -/

/-- The class of a Block's polynomial modulo P(x). -/
noncomputable def fieldElem (v : Block) : AdjoinRoot fieldModulus := AdjoinRoot.mk fieldModulus (blockPoly v)

/-- A Block is the remainder of every polynomial of its class, since its own has degree below that of P(x). -/
theorem fieldElem_eq_mk_iff (z : Block) (p : (ZMod 2)[X]) :
    fieldElem z = AdjoinRoot.mk fieldModulus p ↔ blockPoly z = p %ₘ fieldModulus := by
  have hself : blockPoly z %ₘ fieldModulus = blockPoly z := by
    rw [modByMonic_eq_self_iff fieldModulus_monic, fieldModulus_degree]
    exact blockPoly_degree_lt z
  rw [fieldElem, AdjoinRoot.mk_eq_mk, ← modByMonic_eq_zero_iff_dvd fieldModulus_monic, sub_modByMonic, sub_eq_zero,
    hself]

theorem fieldElem_injective : Function.Injective fieldElem := by
  intro v w h
  refine blockPoly_injective (((fieldElem_eq_mk_iff v _).1 h).trans ?_)
  exact ((fieldElem_eq_mk_iff w _).1 rfl).symm

@[simp] theorem fieldElem_zero : fieldElem 0#128 = 0 := by
  rw [fieldElem, blockPoly_zero, map_zero]

@[simp] theorem fieldElem_one : fieldElem 0x80000000000000000000000000000000#128 = 1 := by
  rw [fieldElem, blockPoly_one, map_one]

@[simp] theorem fieldElem_x : fieldElem 0x40000000000000000000000000000000#128 = AdjoinRoot.root fieldModulus := by
  rw [fieldElem, blockPoly_x, AdjoinRoot.mk_X]

@[simp] theorem fieldElem_xor (v w : Block) : fieldElem (v ^^^ w) = fieldElem v + fieldElem w := by
  rw [fieldElem, blockPoly_xor, map_add, fieldElem, fieldElem]

/-! ## MULX (R83) -/

theorem getMsbD_ushiftRight_one {i : Nat} (hi : i ≠ 127) (v : Block) : (v >>> 1).getMsbD (i + 1) = v.getMsbD i := by
  rw [BitVec.getMsbD_ushiftRight, Nat.add_sub_cancel]
  by_cases h : i + 1 < 128
  · simp [h]
  · simp [h, BitVec.getMsbD_of_ge v i (by omega)]

/-- One bit to the right is one degree up, except for the coefficient of `x^127`, which leaves the Block. -/
theorem X_mul_blockPoly (v : Block) :
    X * blockPoly v = blockPoly (v >>> 1) + if v.getLsbD 0 then X ^ 128 else 0 := by
  ext i
  cases i with
  | zero => cases v.getLsbD 0 <;> simp [blockPoly_coeff]
  | succ i =>
    rw [coeff_X_mul, coeff_add, blockPoly_coeff, blockPoly_coeff]
    by_cases hi : i = 127
    · subst hi
      cases h : v.getLsbD 0 <;> simpa [BitVec.getMsbD] using h
    · have hcoeff : (if v.getLsbD 0 then X ^ 128 else 0 : (ZMod 2)[X]).coeff (i + 1) = 0 := by
        cases v.getLsbD 0 <;> simp [coeff_X_pow, hi]
      rw [getMsbD_ushiftRight_one hi, hcoeff, add_zero]

/-- What leaves the Block is folded in again: the product by `x` and MULX differ by P(x) or not at all. -/
theorem X_mul_blockPoly_eq_mulx (v : Block) :
    X * blockPoly v = blockPoly (mulx v) + if v.getLsbD 0 then fieldModulus else 0 := by
  rw [X_mul_blockPoly, mulx, blockPoly_xor, fieldModulus_eq]
  cases v.getLsbD 0 with
  | false => simp [blockPoly_zero]
  | true =>
    have hcancel : blockPoly rConst + blockPoly rConst = 0 := CharTwo.add_self_eq_zero _
    simp only [if_true]
    linear_combination -hcancel

@[simp] theorem fieldElem_mulx (v : Block) : fieldElem (mulx v) = AdjoinRoot.root fieldModulus * fieldElem v := by
  have hfold : AdjoinRoot.mk fieldModulus (if v.getLsbD 0 then fieldModulus else 0) = 0 := by
    split
    · exact AdjoinRoot.mk_self
    · exact map_zero _
  calc fieldElem (mulx v)
      = AdjoinRoot.mk fieldModulus (X * blockPoly v) := by
        rw [X_mul_blockPoly_eq_mulx, map_add, hfold, add_zero, fieldElem]
    _ = AdjoinRoot.root fieldModulus * fieldElem v := by rw [map_mul, AdjoinRoot.mk_X, fieldElem]

theorem mulx_toNat (v : Block) :
    (mulx v).toNat = (v.toNat / 2) ^^^ (if v.toNat % 2 = 1 then 0xE1 * 2 ^ 120 else 0) := by
  have hbit : v.getLsbD 0 = decide (v.toNat % 2 = 1) := Nat.testBit_zero _
  rw [mulx, BitVec.toNat_xor, BitVec.toNat_ushiftRight, Nat.shiftRight_eq_div_pow, pow_one, hbit]
  by_cases h : v.toNat % 2 = 1
  · simp [h, rConst]
  · simp [h]

/-- Settles O9: the shift with its fold as numbers, and MULX as `x` times the class of the Block. -/
theorem mulxMultipliesByX : Obligations.MulxMultipliesByX := fun v =>
  ⟨mulx_toNat v, (fieldElem_eq_mk_iff _ _).1 <| by rw [fieldElem_mulx, map_mul, AdjoinRoot.mk_X, fieldElem]⟩

/-! ## GFMUL (R82, R84) -/

/-- The polynomial of the bits of `b` that the last `n` iterations read; the integer bit `n - 1` is read first. -/
noncomputable def lowBitsPoly (b : Block) (n : Nat) : (ZMod 2)[X] :=
  ∑ i ∈ Finset.range n, if b.getLsbD (n - 1 - i) then X ^ i else 0

theorem lowBitsPoly_zero (b : Block) : lowBitsPoly b 0 = 0 := Finset.sum_range_zero _

theorem lowBitsPoly_succ (b : Block) (n : Nat) :
    lowBitsPoly b (n + 1) = X * lowBitsPoly b n + if b.getLsbD n then 1 else 0 := by
  rw [lowBitsPoly, Finset.sum_range_succ', lowBitsPoly, Finset.mul_sum]
  congr 1
  refine Finset.sum_congr rfl fun i _ => ?_
  rw [show n + 1 - 1 - (i + 1) = n - 1 - i by omega, mul_ite, mul_zero, pow_succ']

theorem lowBitsPoly_all (b : Block) : lowBitsPoly b 128 = blockPoly b := rfl

/-- R84's reason: the shifted operand is `v` times a power of `x`, so what is still to be added to `z` is `v` times the
polynomial of the bits not yet read. -/
theorem fieldElem_gfmulLoop (b : Block) (n : Nat) (z v : Block) :
    fieldElem (gfmulLoop b n z v) = fieldElem z + fieldElem v * AdjoinRoot.mk fieldModulus (lowBitsPoly b n) := by
  induction n generalizing z v with
  | zero => rw [gfmulLoop, lowBitsPoly_zero, map_zero, mul_zero, add_zero]
  | succ n ih =>
    rw [gfmulLoop, ih, lowBitsPoly_succ, fieldElem_mulx, map_add, map_mul, AdjoinRoot.mk_X]
    cases b.getLsbD n with
    | false => simp only [Bool.false_eq_true, if_false, map_zero]; ring
    | true => simp only [if_true, fieldElem_xor, map_one]; ring

@[simp] theorem fieldElem_gfmul (a b : Block) : fieldElem (gfmul a b) = fieldElem a * fieldElem b := by
  rw [gfmul, fieldElem_gfmulLoop, fieldElem_zero, zero_add, lowBitsPoly_all, fieldElem, fieldElem]

theorem blockPoly_gfmul (a b : Block) : blockPoly (gfmul a b) = (blockPoly a * blockPoly b) %ₘ fieldModulus :=
  (fieldElem_eq_mk_iff _ _).1 <| by rw [fieldElem_gfmul, map_mul, fieldElem, fieldElem]

/-- Settles O10: GFMUL is the product of the classes, and a Block is fixed by its polynomial. -/
theorem gfmulIsProductModuloP : Obligations.GfmulIsProductModuloP := fun a b _ =>
  ⟨gfmul a b, rfl, blockPoly_gfmul a b, fun _ hz => blockPoly_injective (hz.trans (blockPoly_gfmul a b).symm)⟩

/-- Settles O11: each law is one of the commutative ring of the polynomials modulo P(x). -/
theorem gfmulLaws : Obligations.GfmulLaws := by
  intro a b c
  refine ⟨?comm, ?distribLeft, ?distribRight, ?zeroRight, ?zeroLeft, ?assoc, ?identity, ?byX⟩ <;>
    apply fieldElem_injective
  case comm => simp [mul_comm]
  case distribLeft => simp [mul_add]
  case distribRight => simp [add_mul]
  case zeroRight => simp
  case zeroLeft => simp
  case assoc => simp [mul_assoc]
  case identity => simp
  case byX => simp [mul_comm]

end Sys2Proof.Machine

/-! PROOFS. The statements of 41_counter_keystream.md: INC32 and the counter blocks, the oracle's requests, the moves of S,
J0 and CB, and the text under the keystream. -/

namespace Sys2Proof.Machine

open Sys2Proof

/-! ## INC32 (R100) -/

theorem inc32By_toNat (v : Block) (k : Nat) :
    (inc32By v k).toNat = v.toNat / 2 ^ 32 * 2 ^ 32 + (v.toNat % 2 ^ 32 + k) % 2 ^ 32 := by
  have hhigh : v.toNat / 2 ^ 32 % 2 ^ 96 = v.toNat / 2 ^ 32 := Nat.mod_eq_of_lt (by omega)
  rw [inc32By, toNat_append_eq_mul_add, BitVec.toNat_ofNat, BitVec.extractLsb'_toNat, BitVec.extractLsb'_toNat,
    Nat.shiftRight_eq_div_pow, Nat.shiftRight_zero, hhigh, Nat.mul_comm]

theorem inc32_eq_inc32By_one (v : Block) : inc32 v = inc32By v 1 := by
  rw [← inc32_inc32By, inc32By_zero]

theorem inc32_toNat (v : Block) :
    (inc32 v).toNat = v.toNat / 2 ^ 32 * 2 ^ 32 + (v.toNat % 2 ^ 32 + 1) % 2 ^ 32 := by
  rw [inc32_eq_inc32By_one, inc32By_toNat]

theorem inc32_iterate (v : Block) (k : Nat) : inc32^[k] v = inc32By v k := by
  induction k with
  | zero => exact (inc32By_zero v).symm
  | succ k ih => rw [Function.iterate_succ_apply', ih, inc32_inc32By]

/-- Two counter blocks of one J0 agree exactly when their low words, which alone count, agree. -/
theorem inc32By_eq_iff (v : Block) (i k : Nat) : inc32By v i = inc32By v k ↔ i ≡ k [MOD 2 ^ 32] := by
  rw [← BitVec.toNat_inj, inc32By_toNat, inc32By_toNat, Nat.add_left_cancel_iff]
  exact ⟨fun h => Nat.ModEq.add_left_cancel' _ h, fun h => Nat.ModEq.add_left _ h⟩

theorem inc32By_eq_self_iff (v : Block) (k : Nat) : inc32By v k = v ↔ 2 ^ 32 ∣ k := by
  calc inc32By v k = v
      ↔ inc32By v k = inc32By v 0 := by rw [inc32By_zero]
    _ ↔ k ≡ 0 [MOD 2 ^ 32] := inc32By_eq_iff v k 0
    _ ↔ 2 ^ 32 ∣ k := Nat.modEq_zero_iff_dvd

/-- One application less than a period undoes INC32. -/
theorem inc32_bijective : Function.Bijective inc32 := by
  have hperiod (v : Block) : inc32^[(2 ^ 32 - 1) + 1] v = v :=
    (inc32_iterate v _).trans ((inc32By_eq_self_iff v _).2 (by decide))
  exact Function.bijective_iff_has_inverse.2 ⟨inc32^[2 ^ 32 - 1],
    fun v => (Function.iterate_succ_apply inc32 _ v).symm.trans (hperiod v),
    fun v => (Function.iterate_succ_apply' inc32 _ v).symm.trans (hperiod v)⟩

/-- Settles O12: INC32 and its iterates as numbers, and the period as equality of counter blocks. -/
theorem inc32WrapsInTheLowWord : Obligations.Inc32WrapsInTheLowWord :=
  ⟨fun v _ => ⟨inc32 v, rfl, inc32_toNat v⟩, fun v k => ⟨inc32_iterate v k, inc32By_toNat v k⟩, inc32_bijective,
    inc32By_eq_self_iff⟩

/-! ## The counter blocks of one command (00_scope.md R5) -/

/-- The longest text and the block of J0 together stay below one period of the counter. -/
theorem nblk_lt_counterPeriod {len : Nat} (h : len ≤ 2 ^ 36 - 32) : nblk len < 2 ^ 32 := by
  unfold nblk
  omega

/-- Settles O13: counter blocks that agree have indices that agree modulo a period no index of a command reaches. -/
theorem counterBlocksAreDistinct : Obligations.CounterBlocksAreDistinct := by
  intro j len i k hlen hi hk hne heq
  have hperiod := nblk_lt_counterPeriod hlen
  exact hne (((inc32By_eq_iff j i k).1 heq).eq_of_lt_of_lt (hi.trans_lt hperiod) (hk.trans_lt hperiod))

/-! ## The oracle (R101, R103, R110) -/

theorem deriveH_of_cached (E : Block → Block → Block) {s : State} (h : s.hValid = true) : deriveH E s = s :=
  if_pos h

theorem deriveH_of_not_cached (E : Block → Block → Block) {s : State} (h : s.hValid = false) :
    deriveH E s = { s with h := E s.key 0#128, hValid := true } :=
  if_neg (Bool.eq_false_iff.1 h)

/-- Settles O14: ECALL by definition, DERIVE_H by the value of H_VALID. -/
theorem oracleIsAskedUnderKey : Obligations.OracleIsAskedUnderKey := fun _ _ =>
  ⟨rfl, fun h => congrArg Host.Outcome.next (deriveH_of_not_cached Config.E h),
    fun h => congrArg Host.Outcome.next (deriveH_of_cached Config.E h)⟩

/-- Settles O19: the block asked for is INC32 of CB, and it is the one CB is left with. -/
theorem ksBlockIncrementsThenEncrypts : Obligations.KsBlockIncrementsThenEncrypts :=
  ⟨decode_phase_code .ksBlock, fun s => ⟨inc32 s.cb, rfl, inc32_toNat s.cb⟩⟩

/-! ## S, J0 and CB (R105, R108, R109, 42_ghash_accumulator.md R122) -/

/-- Settles O16: the four codes by the decoder, the four effects by definition. -/
theorem hashStartsAndCounterMoves : Obligations.HashStartsAndCounterMoves :=
  ⟨decode_phase_code .nghInit, decode_phase_code .ghInit, decode_phase_code .j0Take, decode_phase_code .ctrInit,
    fun _ => ⟨rfl, rfl, rfl, rfl⟩⟩

/-! ## XOR_TEXT (R111) -/

theorem bytesOfBlock_getElem? (v : Block) {k : Nat} (hk : k < 16) : (bytesOfBlock v)[k]? = some (byteAt v k) := by
  simp [bytesOfBlock, hk]

/-- The text bytes of a buffer under the leading bytes of a keystream block (R111). -/
theorem zipWith_xor_memRead_getD (s : State) (sp : Space) (off n : Nat) (v : Block) {k : Nat} (hn : k < n)
    (hk : k < 16) :
    (List.zipWith (· ^^^ ·) (s.memRead sp off n) (bytesOfBlock v)).getD k 0#8 =
      s.readByte sp (off + k) ^^^ byteAt v k := by
  rw [List.getD_eq_getElem?_getD, List.getElem?_zipWith, State.memRead_getElem? s sp off n k hn,
    bytesOfBlock_getElem? v hk]
  rfl

theorem xorText_doutByte (s : State) (off : Nat) :
    (xorText s).doutByte off =
      if 16 * s.idx.toNat ≤ off ∧ off < 16 * s.idx.toNat + blockBytes s.tlen.toNat s.idx.toNat then
        s.inByte .din off ^^^ byteAt s.ks (off - 16 * s.idx.toNat)
      else s.doutByte off := by
  have hshort : blockBytes s.tlen.toNat s.idx.toNat ≤ 16 := Nat.min_le_left _ _
  rw [xorText, State.memWriteDout_doutByte, List.length_zipWith, State.memRead_length, bytesOfBlock_length,
    Nat.min_eq_left hshort]
  split
  · next hin =>
    obtain ⟨hlow, hhigh⟩ := hin
    rw [zipWith_xor_memRead_getD _ _ _ _ _ (by omega) (by omega), Nat.add_sub_cancel' hlow]
    rfl
  · rfl

/-- Settles O20: only DOUT is written, and its bytes are those of the MemWrite. -/
theorem xorTextWritesTheTextBlock : Obligations.XorTextWritesTheTextBlock :=
  ⟨decode_phase_code .xorText, fun s => ⟨xorText s, rfl, rfl, xorText_doutByte s⟩⟩

end Sys2Proof.Machine

/-! PROOFS. The statements of 42_ghash_accumulator.md, with NGH_ABSORB and NGH_LEN of 41_counter_keystream.md: the blocks
folded into S by ABSORB (R121), padded data (R120) and lengths (R127). -/

namespace Sys2Proof.Machine

open Sys2Proof

/-! ## Padded data (R120, R123, R124) -/

/-- The ciphertext stands in DOUT when sealing and in DIN otherwise (R124). -/
theorem State.readByte_ctSpace (s : State) (off : Nat) :
    s.readByte s.ctSpace off = if s.cmd.toNat % 256 = 1 then s.doutByte off else s.inByte .din off := by
  by_cases hseal : cmdOp s.cmd = opSeal
  · rw [State.ctSpace, if_pos hseal, if_pos (cmdOp_eq_opSeal_iff.1 hseal)]; rfl
  · rw [State.ctSpace, if_neg hseal, if_neg (mt cmdOp_eq_opSeal_iff.2 hseal)]; rfl

/-- Settles O17: the block folded is PADBLK of the nonce. -/
theorem nghAbsorbFoldsPaddedNonce : Obligations.NghAbsorbFoldsPaddedNonce :=
  ⟨decode_phase_code .nghAbsorb, fun s =>
    ⟨s.padBlk .nonce s.nlen.toNat s.idx.toNat, rfl, State.padBlk_byteAt s .nonce _ _⟩⟩

/-- Settles O21: the block folded is PADBLK of the AAD. -/
theorem ghAadFoldsPaddedAad : Obligations.GhAadFoldsPaddedAad :=
  ⟨decode_phase_code .ghAad, fun s =>
    ⟨s.padBlk .aad s.alen.toNat s.idx.toNat, rfl, State.padBlk_byteAt s .aad _ _⟩⟩

/-- Settles O22: the block folded is PADBLK of the buffer that holds the ciphertext. -/
theorem ghCtFoldsPaddedCiphertext : Obligations.GhCtFoldsPaddedCiphertext := by
  refine ⟨decode_phase_code .ghCt, fun s => ⟨s.padBlk s.ctSpace s.tlen.toNat s.idx.toNat, rfl, fun k hk => ?_⟩⟩
  rw [State.padBlk_byteAt s _ _ _ k hk, State.readByte_ctSpace]

/-! ## Length blocks (R127, 41_counter_keystream.md R107) -/

/-- A byte count up to the spec's bound has its bit length within 64 bits. -/
theorem bitLength_toNat {len : Nat} (h : len < 2 ^ 61) : (BitVec.ofNat 64 (8 * len)).toNat = 8 * len := by
  rw [BitVec.toNat_ofNat, Nat.mod_eq_of_lt (by omega)]

theorem lenBlk_toNat {la lc : Nat} (ha : la < 2 ^ 61) (hc : lc < 2 ^ 61) :
    (lenBlk la lc).toNat = 8 * la * 2 ^ 64 + 8 * lc := by
  rw [lenBlk, toNat_append_eq_mul_add, bitLength_toNat ha, bitLength_toNat hc, Nat.mul_comm]

/-- The nonce hash ends with the length block of an empty AAD and the nonce as the text (R126). -/
theorem nonceLenBlk_eq_lenBlk (ln : Nat) : nonceLenBlk ln = lenBlk 0 ln := rfl

/-- Settles O18: the block folded is a length block whose high half is zero. -/
theorem nghLenFoldsNonceLength : Obligations.NghLenFoldsNonceLength := by
  refine ⟨decode_phase_code .nghLen, fun s => ⟨nonceLenBlk s.nlen.toNat, rfl, fun hn => ?_⟩⟩
  rw [nonceLenBlk_eq_lenBlk, lenBlk_toNat (by decide) hn]
  omega

/-- Settles O23: the block folded is LENBLK of ALEN and TLEN. -/
theorem ghLenFoldsLengthBlock : Obligations.GhLenFoldsLengthBlock :=
  ⟨decode_phase_code .ghLen, fun s => ⟨lenBlk s.alen.toNat s.tlen.toNat, rfl, lenBlk_toNat⟩⟩

end Sys2Proof.Machine

/-! PROOFS. The statements of 43_tag_engine.md on its micro-operations: the mask, the tag, its comparison, and the end of a
command. -/

namespace Sys2Proof.Machine

open Sys2Proof

/-! ## The tag length (30_encoding.md R60, R61) -/

/-- TAGBITS, read as a number, fixes the tag length in bytes. -/
theorem State.tagBytes_eq (s : State) : s.tagBytes = s.cmd.toNat / 2 ^ 8 % 256 / 8 := by
  rw [State.tagBytes, cmdTagbits_eq_ofNat, BitVec.toNat_ofNat]

/-! ## The comparison accumulator (R143) -/

/-- A bit of bytes ORed one after another onto a first one is set where it is set in one of them. -/
theorem foldl_or_getLsbD (f : Nat → Byte) (ks : List Nat) (d : Byte) (j : Nat) :
    (ks.foldl (fun d k => d ||| f k) d).getLsbD j = true ↔
      d.getLsbD j = true ∨ ∃ k ∈ ks, (f k).getLsbD j = true := by
  induction ks generalizing d with
  | nil => simp
  | cons k ks ih => rw [List.foldl_cons, ih, BitVec.getLsbD_or, Bool.or_eq_true, List.exists_mem_cons_iff, or_assoc]

theorem tagDiff_getLsbD (x y : Block) (t j : Nat) :
    (tagDiff x y t).getLsbD j = true ↔
      ∃ k, k < 16 ∧ k < t ∧ (byteAt x k ^^^ byteAt y k).getLsbD j = true := by
  rw [tagDiff, foldl_or_getLsbD]
  simp only [BitVec.getLsbD_zero, Bool.false_eq_true, false_or, List.mem_range, lt_min_iff, and_assoc, and_left_comm]

/-- DIFF is zero exactly when no compared byte has a difference, which is R143's equality of tags. -/
theorem tagDiff_eq_zero_iff (x y : Block) (t : Nat) :
    tagDiff x y t = 0#8 ↔ ∀ k, k < 16 → k < t → byteAt x k = byteAt y k := by
  constructor
  · intro h k hk hkt
    refine BitVec.xor_eq_zero_iff.1 (BitVec.eq_of_getLsbD_eq fun j _ => ?_)
    rw [BitVec.getLsbD_zero, ← Bool.not_eq_true]
    intro hset
    have hbit := (tagDiff_getLsbD x y t j).2 ⟨k, hk, hkt, hset⟩
    rw [h, BitVec.getLsbD_zero] at hbit
    cases hbit
  · intro h
    refine BitVec.eq_of_getLsbD_eq fun j _ => ?_
    rw [BitVec.getLsbD_zero, ← Bool.not_eq_true, tagDiff_getLsbD]
    rintro ⟨k, hk, hkt, hset⟩
    rw [h k hk hkt, BitVec.xor_self, BitVec.getLsbD_zero] at hset
    cases hset

/-! ## The micro-operations (R140 to R146) -/

/-- Settles O25: the tag emitted is TRUNC of T. -/
theorem tagEmitTruncates : Obligations.TagEmitTruncates := by
  refine ⟨decode_phase_code .tagEmit, fun s => ⟨trunc s.tReg s.tagBytes, rfl, fun k hk => ?_⟩⟩
  rw [byteAt_trunc _ _ _ hk, State.tagBytes_eq]

/-- Settles O26: DIFF bit by bit, and what its being zero means. -/
theorem tagCmpComparesTheTagBytes : Obligations.TagCmpComparesTheTagBytes := by
  refine ⟨decode_phase_code .tagCmp, fun s => ⟨tagDiff s.tReg s.tagin s.tagBytes, rfl, ?_⟩⟩
  rw [← State.tagBytes_eq]
  exact ⟨tagDiff_getLsbD _ _ _, tagDiff_eq_zero_iff _ _ _⟩

/-- Settles O24: the two codes by the decoder, the two effects by definition. -/
theorem tagIsHashUnderMask : Obligations.TagIsHashUnderMask :=
  ⟨decode_phase_code .maskJ0, decode_phase_code .tagForm, fun _ => ⟨rfl, rfl⟩⟩

/-- Settles O27: DOUT lists no byte, and every other field is by definition. -/
theorem zeroizeClearsAndTakesAuthenticationFailure : Obligations.ZeroizeClearsAndTakesAuthenticationFailure :=
  ⟨decode_phase_code .zeroize, fun s => ⟨zeroize s, rfl, fun _ => rfl, rfl, rfl, rfl⟩⟩

/-- Settles O28: the two codes by the decoder, the two effects by definition. -/
theorem releaseOpensAndCleanupEnds : Obligations.ReleaseOpensAndCleanupEnds :=
  ⟨decode_phase_code .release, decode_phase_code .cleanup, fun _ => ⟨rfl, rfl⟩⟩

end Sys2Proof.Machine

/-! PROOFS. A whole command as a function of the state it is launched in (44_aead_orchestrator.md R171, R173, R174). The
sequencer is followed position by position, each stage from the position where it begins to the one where the next
begins, with the number of its steps. -/

namespace Sys2Proof.Machine

open Sys2Proof

/-! ## Runs of the sequencer from one position to another (R171) -/

section
variable {E : Block → Block → Block} {s : State}

/-- `n` steps of the sequencer lead from one state to another, RUN being 1 before each. -/
inductive SeqSteps (E : Block → Block → Block) : Nat → State → State → Prop where
  | refl (s : State) : SeqSteps E 0 s s
  | head {n : Nat} {s t : State} (hr : s.run = true) (h : SeqSteps E n (seqStep E s) t) : SeqSteps E (n + 1) s t

theorem SeqSteps.trans {m n : Nat} {t u : State} (hst : SeqSteps E m s t)
    (htu : SeqSteps E n t u) : SeqSteps E (m + n) s u := by
  induction hst with
  | refl s => rwa [Nat.zero_add]
  | head hr _ ih => rw [Nat.add_right_comm]; exact .head hr (ih htu)

theorem SeqSteps.runSeq_eq {n : Nat} {t : State} (h : SeqSteps E n s t) :
    runSeq E n s = t := by
  induction h with
  | refl s => rfl
  | head hr _ ih => rw [runSeq_succ_running hr, ih]

/-- The state at a sequencer position. -/
def State.atPos (s : State) (p : Uop × BitVec 64) : State := s.setSeq p.1 p.2

theorem State.successor_atPos (s : State) (p : Uop × BitVec 64) (u : Uop) (i : BitVec 64) :
    (s.atPos p).successor u i = s.successor u i := by
  cases u <;> rfl

/-- A micro-operation that takes `s` to `t` is one step, from its position to the successor. -/
theorem seqSteps_one {t : State} {u : Uop} {i : BitVec 64} {p : Uop × BitVec 64} (hr : s.run = true)
    (heffect : uopEffect E u (s.atPos (u, i)) = t.atPos (u, i))
    (hsucc : t.successor u i = some p) : SeqSteps E 1 (s.atPos (u, i)) (t.atPos p) := by
  have hstep : seqStep E (s.atPos (u, i)) = t.atPos p := by
    rw [seqStep_of_ofCode (Uop.ofCode_code u), heffect]
    exact State.advance_of_successor ((t.successor_atPos (u, i) u i).trans hsucc)
  exact .head hr (hstep ▸ .refl _)

/-! ## The loops over blocks -/

/-- The position before block `k` of `n`: `u` at that block, or `exit` after the last one. -/
def blockPos (n k : Nat) (u : Uop) (exit : Uop × BitVec 64) : Uop × BitVec 64 :=
  if k < n then (u, BitVec.ofNat 64 k) else exit

theorem blockPos_of_lt {n k : Nat} (h : k < n) (u : Uop) (exit : Uop × BitVec 64) :
    blockPos n k u exit = (u, BitVec.ofNat 64 k) := if_pos h

theorem blockPos_end (n : Nat) (u : Uop) (exit : Uop × BitVec 64) : blockPos n n u exit = exit :=
  if_neg (Nat.lt_irrefl n)

/-- Where the successor function moves on from block `k`. -/
theorem ite_eq_blockPos {n k : Nat} (hk : (BitVec.ofNat 64 k).toNat = k) (u : Uop) (exit : Uop × BitVec 64) :
    (if (BitVec.ofNat 64 k).toNat + 1 < n then some (u, BitVec.ofNat 64 k + 1#64) else some exit) =
      some (blockPos n (k + 1) u exit) := by
  rw [hk, blockPos, BitVec.ofNat_add, apply_ite some]

/-- A block index of a 64-bit length is an index of 64 bits. -/
theorem toNat_ofNat_of_lt_nblk {len : BitVec 64} {k : Nat} (h : k < nblk len.toNat) :
    (BitVec.ofNat 64 k).toNat = k := by
  have hn : nblk len.toNat ≤ 2 ^ 60 := by unfold nblk; omega
  rw [BitVec.toNat_ofNat]
  omega

/-- A loop of `n` blocks, `m` steps each, where `f k` is the state before block `k`. -/
theorem seqSteps_blocks {n m : Nat} {u : Uop} {exit : Uop × BitVec 64} (f : Nat → State)
    (hbody : ∀ k, k < n →
      SeqSteps E m ((f k).atPos (u, BitVec.ofNat 64 k)) ((f (k + 1)).atPos (blockPos n (k + 1) u exit))) :
    SeqSteps E (m * n) ((f 0).atPos (blockPos n 0 u exit)) ((f n).atPos exit) := by
  have hupto (k : Nat) (hk : k ≤ n) :
      SeqSteps E (m * k) ((f 0).atPos (blockPos n 0 u exit)) ((f k).atPos (blockPos n k u exit)) := by
    induction k with
    | zero => exact .refl _
    | succ k ih =>
      have hblock := hbody k hk
      rw [← blockPos_of_lt hk u exit] at hblock
      exact (ih (Nat.le_of_succ_le hk)).trans hblock
  have hall := hupto n (Nat.le_refl n)
  rwa [blockPos_end] at hall

/-! ## H and J0 (41_counter_keystream.md R103 to R108) -/

/-- Where the derivation of J0 begins (R171). -/
def State.preCounterStart (s : State) : Uop × BitVec 64 :=
  if s.nlen.toNat = canonNonceBytes then (.j096, 0#64) else (.nghInit, 0#64)

/-- A cached H is the one DERIVE_H would load. -/
theorem deriveH_eq (hcached : s.hValid = true → s.h = s.subkey E) :
    deriveH E s = { s with h := s.subkey E, hValid := true } := by
  cases hv : s.hValid with
  | true => rw [deriveH_of_cached E hv, ← hcached hv, ← hv]
  | false => exact deriveH_of_not_cached E hv

theorem seqSteps_deriveH (hr : s.run = true) (hcached : s.hValid = true → s.h = s.subkey E) :
    SeqSteps E 1 (s.atPos (.deriveH, 0#64))
      (({ s with h := s.subkey E, hValid := true } : State).atPos s.preCounterStart) :=
  seqSteps_one hr (deriveH_eq (s := s.atPos (.deriveH, 0#64)) hcached) (apply_ite some _ _ _).symm

/-- The state with another hash value in S. -/
abbrev State.withHash (s : State) (y : Block) : State := { s with sReg := y }

/-- S and the position are no part of what a padded block is read from. -/
theorem State.padBlk_withHash_atPos (s : State) (y : Block) (p : Uop × BitVec 64) (sp : Space) (len i : Nat) :
    ((s.withHash y).atPos p).padBlk sp len i = s.padBlk sp len i := by
  have hread : ((s.withHash y).atPos p).readByte sp = s.readByte sp := by cases sp <;> rfl
  simp only [State.padBlk, State.memRead, hread]

theorem absorbAll_snoc (h y : Block) (xs : List Block) (x : Block) :
    absorbAll h y (xs ++ [x]) = absorb (absorbAll h y xs) h x := List.foldl_concat ..

theorem absorbAll_append (h y : Block) (xs zs : List Block) :
    absorbAll h y (xs ++ zs) = absorbAll h (absorbAll h y xs) zs := List.foldl_append

/-- A step that writes S alone. -/
theorem seqSteps_hashStep {u : Uop} {i : BitVec 64} {p : Uop × BitVec 64} {y z : Block} (hr : s.run = true)
    (heffect : uopEffect E u ((s.withHash y).atPos (u, i)) = ((s.withHash y).atPos (u, i)).withHash z)
    (hsucc : (s.withHash z).successor u i = some p) :
    SeqSteps E 1 ((s.withHash y).atPos (u, i)) ((s.withHash z).atPos p) :=
  seqSteps_one hr heffect hsucc

/-- One loop for NGH_ABSORB, GH_AAD and GH_CT: a micro-operation that absorbs block IDX of `len` bytes of a buffer and
goes on with the next block absorbs all of them. -/
theorem seqSteps_absorbBlocks {u : Uop} {sp : Space} {len : BitVec 64} {exit : Uop × BitVec 64} (hr : s.run = true)
    (heffect : ∀ (y : Block) (i : BitVec 64), uopEffect E u ((s.withHash y).atPos (u, i)) =
      ((s.withHash y).atPos (u, i)).withHash (absorb y s.h (((s.withHash y).atPos (u, i)).padBlk sp len.toNat i.toNat)))
    (hsucc : ∀ (y : Block) (i : BitVec 64), (s.withHash y).successor u i =
      if i.toNat + 1 < nblk len.toNat then some (u, i + 1#64) else some exit) (y : Block) :
    SeqSteps E (nblk len.toNat) ((s.withHash y).atPos (blockPos (nblk len.toNat) 0 u exit))
      ((s.withHash (absorbAll s.h y (paddedBlocks (s.readByte sp) len.toNat))).atPos exit) := by
  have hblocks := seqSteps_blocks (E := E) (m := 1) (n := nblk len.toNat) (u := u) (exit := exit)
    (fun k => s.withHash (absorbAll s.h y ((List.range k).map (s.padBlk sp len.toNat)))) fun k hk => by
      have hk64 := toNat_ofNat_of_lt_nblk hk
      rw [List.range_succ, List.map_append, List.map_singleton, absorbAll_snoc]
      refine seqSteps_hashStep hr ?_ ((hsucc _ _).trans (ite_eq_blockPos hk64 u exit))
      rw [heffect, State.padBlk_withHash_atPos, hk64]
  rwa [Nat.one_mul] at hblocks

theorem State.nonceBlocks_pos_of_nlen (h : 0 < s.nlen.toNat) : 0 < s.nonceBlocks := by
  unfold State.nonceBlocks nblk
  omega

/-- The nonce hash is GHASH without AAD (42_ghash_accumulator.md R126). -/
theorem ghash_noAad (h : Block) (c : Nat → Byte) (lc : Nat) :
    ghash h (fun _ => 0#8) 0 c lc = absorb (absorbAll h 0#128 (paddedBlocks c lc)) h (nonceLenBlk lc) := by
  rw [ghash, absorbAll_snoc]
  rfl

/-- The nonce hash: NGH_INIT to J0_TAKE. -/
theorem seqSteps_hashNonce (hr : s.run = true) (hnonce : 0 < s.nlen.toNat) :
    SeqSteps E (s.nonceBlocks + 3) (s.atPos (.nghInit, 0#64))
      (({ s with j0 := ghash s.h (fun _ => 0#8) 0 (s.inByte .nonce) s.nlen.toNat, sReg := 0#128 } : State).atPos
        (.ctrInit, 0#64)) := by
  have hinit : SeqSteps E 1 (s.atPos (.nghInit, 0#64)) ((s.withHash 0#128).atPos
      (blockPos s.nonceBlocks 0 .nghAbsorb (.nghLen, 0#64))) := by
    rw [blockPos_of_lt (State.nonceBlocks_pos_of_nlen hnonce)]
    exact seqSteps_one (u := .nghInit) hr rfl rfl
  have habsorb : SeqSteps E s.nonceBlocks
      ((s.withHash 0#128).atPos (blockPos s.nonceBlocks 0 .nghAbsorb (.nghLen, 0#64)))
      ((s.withHash (absorbAll s.h 0#128 (paddedBlocks (s.inByte .nonce) s.nlen.toNat))).atPos (.nghLen, 0#64)) :=
    seqSteps_absorbBlocks (u := .nghAbsorb) (sp := .nonce) (len := s.nlen) hr (fun _ _ => rfl) (fun _ _ => rfl) 0#128
  have hlen : SeqSteps E 1
      ((s.withHash (absorbAll s.h 0#128 (paddedBlocks (s.inByte .nonce) s.nlen.toNat))).atPos (.nghLen, 0#64))
      ((s.withHash (ghash s.h (fun _ => 0#8) 0 (s.inByte .nonce) s.nlen.toNat)).atPos (.j0Take, 0#64)) := by
    rw [ghash_noAad]
    exact seqSteps_hashStep (u := .nghLen) hr rfl rfl
  have htake : SeqSteps E 1
      ((s.withHash (ghash s.h (fun _ => 0#8) 0 (s.inByte .nonce) s.nlen.toNat)).atPos (.j0Take, 0#64))
      (({ s with j0 := ghash s.h (fun _ => 0#8) 0 (s.inByte .nonce) s.nlen.toNat, sReg := 0#128 } : State).atPos
        (.ctrInit, 0#64)) := seqSteps_one (u := .j0Take) hr rfl rfl
  have hall := ((hinit.trans habsorb).trans hlen).trans htake
  rwa [Nat.add_comm 1, Nat.add_assoc, Nat.add_assoc] at hall

/-- J0 from the nonce, with S zero before and after. -/
theorem seqSteps_preCounter (hr : s.run = true) (hnonce : 0 < s.nlen.toNat) (hzero : s.sReg = 0#128) :
    SeqSteps E s.j0Steps (s.atPos s.preCounterStart)
      (({ s with j0 := preCounter s.h (s.inByte .nonce) s.nlen.toNat, sReg := 0#128 } : State).atPos
        (.ctrInit, 0#64)) := by
  unfold State.j0Steps State.preCounterStart preCounter
  split
  · next hcanon =>
    have hfirst : s.memRead .nonce 0 canonNonceBytes = (List.range canonNonceBytes).map (s.inByte .nonce) :=
      List.map_congr_left fun k _ => by rw [Nat.zero_add]; rfl
    rw [← hzero, ← hfirst]
    exact seqSteps_one (u := .j096) hr rfl rfl
  · exact seqSteps_hashNonce hr hnonce

/-! ## The text under the keystream (41_counter_keystream.md R109 to R111) -/

/-- DOUT after `k` blocks of text. -/
def State.textDout (E : Block → Block → Block) (s : State) : Nat → Memory
  | 0 => s.dout
  | k + 1 => memWriteBytes (bufferDefault .dout) (s.textDout E k) (16 * k)
      (List.zipWith (· ^^^ ·) (s.memRead .din (16 * k) (blockBytes s.tlen.toNat k))
        (bytesOfBlock (E s.key (inc32By s.j0 (k + 1)))))

/-- KS after `k` blocks of text. -/
def State.textKs (E : Block → Block → Block) (s : State) : Nat → Block
  | 0 => s.ks
  | k + 1 => E s.key (inc32By s.j0 (k + 1))

/-- The state after `k` blocks of text. -/
def State.afterText (E : Block → Block → Block) (s : State) (k : Nat) : State :=
  { s with cb := inc32By s.j0 k, ks := s.textKs E k, dout := s.textDout E k }

/-- The state between KS_BLOCK and XOR_TEXT of block `k`. -/
def State.afterKeystream (E : Block → Block → Block) (s : State) (k : Nat) : State :=
  { s.afterText E (k + 1) with dout := s.textDout E k }

theorem uopEffect_ksBlock_afterText (k : Nat) (i : BitVec 64) :
    uopEffect E .ksBlock ((s.afterText E k).atPos (.ksBlock, i)) = (s.afterKeystream E k).atPos (.ksBlock, i) := by
  simp only [State.afterKeystream, State.afterText, State.textKs, ← inc32_inc32By]
  rfl

theorem uopEffect_xorText_afterKeystream {k : Nat} {i : BitVec 64} (hi : i.toNat = k) :
    uopEffect E .xorText ((s.afterKeystream E k).atPos (.xorText, i)) = (s.afterText E (k + 1)).atPos (.xorText, i) := by
  subst hi
  rfl

/-- KS_BLOCK and XOR_TEXT of one block. -/
theorem seqSteps_textBlock (hr : s.run = true) {k : Nat} (hk : k < s.textBlocks) :
    SeqSteps E 2 ((s.afterText E k).atPos (.ksBlock, BitVec.ofNat 64 k))
      ((s.afterText E (k + 1)).atPos (blockPos s.textBlocks (k + 1) .ksBlock (.ghInit, 0#64))) := by
  have hk64 : (BitVec.ofNat 64 k).toNat = k := toNat_ofNat_of_lt_nblk hk
  have hks : SeqSteps E 1 ((s.afterText E k).atPos (.ksBlock, BitVec.ofNat 64 k))
      ((s.afterKeystream E k).atPos (.xorText, BitVec.ofNat 64 k)) :=
    seqSteps_one hr (uopEffect_ksBlock_afterText k _) rfl
  have hxor : SeqSteps E 1 ((s.afterKeystream E k).atPos (.xorText, BitVec.ofNat 64 k))
      ((s.afterText E (k + 1)).atPos (blockPos s.textBlocks (k + 1) .ksBlock (.ghInit, 0#64))) :=
    seqSteps_one hr (uopEffect_xorText_afterKeystream hk64) (ite_eq_blockPos hk64 _ _)
  exact hks.trans hxor

/-- CTR_INIT and all blocks of the text. -/
theorem seqSteps_text (hr : s.run = true) :
    SeqSteps E (2 * s.textBlocks + 1) (s.atPos (.ctrInit, 0#64))
      ((s.afterText E s.textBlocks).atPos (.ghInit, 0#64)) := by
  have hctr : SeqSteps E 1 (s.atPos (.ctrInit, 0#64))
      ((s.afterText E 0).atPos (blockPos s.textBlocks 0 .ksBlock (.ghInit, 0#64))) := by
    rw [State.afterText, inc32By_zero]
    exact seqSteps_one (u := .ctrInit) hr rfl (apply_ite some _ _ _).symm
  rw [Nat.add_comm]
  exact hctr.trans (seqSteps_blocks (s.afterText E) fun k hk => seqSteps_textBlock hr hk)

/-- DOUT after `k` blocks of text: the text under the keystream as far as they and TLEN go (R102, R111). -/
theorem textDout_byte (k off : Nat) :
    (memLookup (s.textDout E k) off).getD 0#8 =
      if off < 16 * k ∧ off < s.tlen.toNat then s.inByte .din off ^^^ keystreamByte E s.key s.j0 off
      else s.doutByte off := by
  induction k with
  | zero => rw [if_neg (by omega)]; rfl
  | succ k ih =>
    have hlen : blockBytes s.tlen.toNat k = min 16 (s.tlen.toNat - 16 * k) := rfl
    rw [State.textDout, bufferDefault, memLookup_memWriteBytes_zero, List.length_zipWith, State.memRead_length,
      bytesOfBlock_length, hlen]
    by_cases hin : 16 * k ≤ off ∧ off < 16 * (k + 1) ∧ off < s.tlen.toNat
    · obtain ⟨hlow, hhigh, htext⟩ := hin
      have hdiv : off / 16 = k := by omega
      have hmod : off % 16 = off - 16 * k := by omega
      rw [if_pos (by omega), if_pos ⟨hhigh, htext⟩, zipWith_xor_memRead_getD _ _ _ _ _ (by omega) (by omega),
        Nat.add_sub_cancel' hlow, keystreamByte, hdiv, hmod]
      rfl
    · rw [if_neg (by omega), ih]
      exact if_congr (by omega) rfl rfl

/-! ## The hash of the message (42_ghash_accumulator.md R122 to R126) -/

theorem ghash_eq (h : Block) (a : Nat → Byte) (la : Nat) (c : Nat → Byte) (lc : Nat) :
    ghash h a la c lc =
      absorb (absorbAll h (absorbAll h 0#128 (paddedBlocks a la)) (paddedBlocks c lc)) h (lenBlk la lc) := by
  rw [ghash, absorbAll_snoc, absorbAll_append]

/-- GH_AAD to GH_LEN, from a hash value of zero; the ciphertext is where the command has it. -/
theorem seqSteps_hashMessage (hr : s.run = true) :
    SeqSteps E (s.aadBlocks + s.textBlocks + 1)
      ((s.withHash 0#128).atPos (blockPos s.aadBlocks 0 .ghAad s.afterAad))
      ((s.withHash (ghash s.h (s.inByte .aad) s.alen.toNat (s.readByte s.ctSpace) s.tlen.toNat)).atPos
        (.maskJ0, 0#64)) := by
  have haad : SeqSteps E s.aadBlocks ((s.withHash 0#128).atPos (blockPos s.aadBlocks 0 .ghAad s.afterAad))
      ((s.withHash (absorbAll s.h 0#128 (paddedBlocks (s.inByte .aad) s.alen.toNat))).atPos s.afterAad) :=
    seqSteps_absorbBlocks (u := .ghAad) (sp := .aad) (len := s.alen) hr (fun _ _ => rfl) (fun _ _ => rfl) 0#128
  have htext (y : Block) : SeqSteps E s.textBlocks ((s.withHash y).atPos s.afterAad)
      ((s.withHash (absorbAll s.h y (paddedBlocks (s.readByte s.ctSpace) s.tlen.toNat))).atPos (.ghLen, 0#64)) :=
    seqSteps_absorbBlocks (u := .ghCt) (sp := s.ctSpace) (len := s.tlen) (exit := (.ghLen, 0#64)) hr
      (fun _ _ => rfl) (fun _ _ => rfl) y
  have hlen (y : Block) : SeqSteps E 1 ((s.withHash y).atPos (.ghLen, 0#64))
      ((s.withHash (absorb y s.h (lenBlk s.alen.toNat s.tlen.toNat))).atPos (.maskJ0, 0#64)) :=
    seqSteps_hashStep (u := .ghLen) hr rfl rfl
  rw [ghash_eq]
  exact (haad.trans (htext _)).trans (hlen _)

theorem seqSteps_ghInit (hr : s.run = true) :
    SeqSteps E 1 (s.atPos (.ghInit, 0#64)) ((({ s with state := .keystreamApplied } : State).withHash 0#128).atPos
      (blockPos s.aadBlocks 0 .ghAad s.afterAad)) :=
  seqSteps_one (u := .ghInit) hr rfl (apply_ite some _ _ _).symm

/-! ## The tag and the end of a command (43_tag_engine.md) -/

/-- Where the command goes on with T (R171). -/
def State.tagUse (s : State) : Uop × BitVec 64 :=
  if cmdOp s.cmd = opSeal then (.tagEmit, 0#64) else (.tagCmp, 0#64)

theorem seqSteps_formTag (hr : s.run = true) :
    SeqSteps E 2 (s.atPos (.maskJ0, 0#64))
      (({ s with ej0 := E s.key s.j0, tReg := s.sReg ^^^ E s.key s.j0, state := .tagComputed } : State).atPos
        s.tagUse) := by
  have hmask : SeqSteps E 1 (s.atPos (.maskJ0, 0#64))
      (({ s with ej0 := E s.key s.j0 } : State).atPos (.tagForm, 0#64)) := seqSteps_one (u := .maskJ0) hr rfl rfl
  exact hmask.trans (seqSteps_one (u := .tagForm) hr rfl (apply_ite some _ _ _).symm)

theorem seqSteps_cleanup (hr : s.run = true) : SeqSteps E 1 (s.atPos (.cleanup, 0#64)) s.endCommand :=
  .head hr (.refl _)

theorem seqSteps_emitTag (hr : s.run = true) :
    SeqSteps E 2 (s.atPos (.tagEmit, 0#64)) (tagEmit s).endCommand := by
  have hemit : SeqSteps E 1 (s.atPos (.tagEmit, 0#64)) ((tagEmit s).atPos (.cleanup, 0#64)) :=
    seqSteps_one (u := .tagEmit) hr rfl rfl
  exact hemit.trans (seqSteps_cleanup hr)

/-- Where the command goes on after TAG_CMP (R171). -/
theorem seqSteps_compareTag (hr : s.run = true) :
    SeqSteps E 1 (s.atPos (.tagCmp, 0#64)) ((tagCmp s).atPos
      (if tagDiff s.tReg s.tagin s.tagBytes = 0#8 then (.release, 0#64) else (.zeroize, 0#64))) :=
  seqSteps_one (u := .tagCmp) hr rfl (apply_ite some _ _ _).symm

/-- The end of an OPEN, by the one decision on DIFF (R143 to R146). -/
theorem seqSteps_verifyTag (hr : s.run = true) :
    SeqSteps E 3 (s.atPos (.tagCmp, 0#64))
      (if tagDiff s.tReg s.tagin s.tagBytes = 0#8 then release s else zeroize s).endCommand := by
  have hcmp := seqSteps_compareTag (E := E) hr
  by_cases hdiff : tagDiff s.tReg s.tagin s.tagBytes = 0#8
  · rw [if_pos hdiff] at hcmp ⊢
    have hrelease : SeqSteps E 1 ((tagCmp s).atPos (.release, 0#64)) ((release (tagCmp s)).atPos (.cleanup, 0#64)) :=
      seqSteps_one (u := .release) hr rfl rfl
    exact (hcmp.trans hrelease).trans (seqSteps_cleanup (s := release (tagCmp s)) hr)
  · rw [if_neg hdiff] at hcmp ⊢
    have hzeroize : SeqSteps E 1 ((tagCmp s).atPos (.zeroize, 0#64)) ((zeroize (tagCmp s)).atPos (.cleanup, 0#64)) :=
      seqSteps_one (u := .zeroize) hr rfl rfl
    exact (hcmp.trans hzeroize).trans (seqSteps_cleanup (s := zeroize (tagCmp s)) hr)

/-! ## From DERIVE_H to the tag -/

/-- The state when H and J0 are derived. -/
def State.counterReady (E : Block → Block → Block) (s : State) : State :=
  { s with h := s.subkey E, hValid := true, j0 := s.preCounterBlock E, sReg := 0#128 }

/-- The state when the text is done. -/
def State.textDone (E : Block → Block → Block) (s : State) : State :=
  (s.counterReady E).afterText E s.textBlocks

/-- The byte of the ciphertext that GH_CT reads when the text is done. -/
def State.ctByte (E : Block → Block → Block) (s : State) (off : Nat) : Byte :=
  (s.textDone E).readByte s.ctSpace off

/-- The state when the message is hashed. -/
def State.messageHashed (E : Block → Block → Block) (s : State) : State :=
  { s.textDone E with
    state := .keystreamApplied
    sReg := ghash (s.subkey E) (s.inByte .aad) s.alen.toNat (s.ctByte E) s.tlen.toNat }

/-- The state when T is formed. -/
def State.tagFormed (E : Block → Block → Block) (s : State) : State :=
  { s.messageHashed E with
    ej0 := E s.key (s.preCounterBlock E), tReg := s.fullTag E (s.ctByte E), state := .tagComputed }

/-- What a state at DERIVE_H has to satisfy for its command to run as its function says: the clauses that a launch from
a core at rest gives it (10_state.md R31, R32; 44_aead_orchestrator.md R162). -/
structure State.readyToRun (E : Block → Block → Block) (s : State) : Prop where
  running : s.run = true
  nonceNonempty : 0 < s.nlen.toNat
  cached : s.hValid = true → s.h = s.subkey E
  hashZero : s.sReg = 0#128

theorem seqSteps_textDone (h : s.readyToRun E) :
    SeqSteps E (1 + s.j0Steps + (2 * s.textBlocks + 1)) (s.atPos (.deriveH, 0#64))
      ((s.textDone E).atPos (.ghInit, 0#64)) := by
  have hpre : SeqSteps E s.j0Steps _ ((s.counterReady E).atPos (.ctrInit, 0#64)) :=
    seqSteps_preCounter (s := { s with h := s.subkey E, hValid := true }) h.running h.nonceNonempty h.hashZero
  exact ((seqSteps_deriveH h.running h.cached).trans hpre).trans (seqSteps_text (s := s.counterReady E) h.running)

theorem seqSteps_tagFormed (h : s.readyToRun E) :
    SeqSteps E (3 * s.textBlocks + s.aadBlocks + s.j0Steps + 6) (s.atPos (.deriveH, 0#64))
      ((s.tagFormed E).atPos s.tagUse) := by
  have hhash : SeqSteps E (1 + (s.aadBlocks + s.textBlocks + 1)) ((s.textDone E).atPos (.ghInit, 0#64))
      ((s.messageHashed E).atPos (.maskJ0, 0#64)) :=
    (seqSteps_ghInit (s := s.textDone E) h.running).trans
      (seqSteps_hashMessage (s := { s.textDone E with state := .keystreamApplied }) h.running)
  have htag : SeqSteps E 2 ((s.messageHashed E).atPos (.maskJ0, 0#64)) ((s.tagFormed E).atPos s.tagUse) :=
    seqSteps_formTag (s := s.messageHashed E) h.running
  have hcount : 3 * s.textBlocks + s.aadBlocks + s.j0Steps + 6 =
      1 + s.j0Steps + (2 * s.textBlocks + 1) + (1 + (s.aadBlocks + s.textBlocks + 1)) + 2 := by omega
  rw [hcount]
  exact ((seqSteps_textDone h).trans hhash).trans htag

/-! ## From DERIVE_H to the end -/

theorem seqSteps_seal (h : s.readyToRun E) (hop : cmdOp s.cmd = opSeal) :
    SeqSteps E s.commandSteps (s.atPos (.deriveH, 0#64)) (tagEmit (s.tagFormed E)).endCommand := by
  have htag := seqSteps_tagFormed h
  rw [State.tagUse, if_pos hop] at htag
  rw [State.commandSteps, if_pos hop]
  exact htag.trans (seqSteps_emitTag h.running)

theorem seqSteps_open (h : s.readyToRun E) (hop : cmdOp s.cmd ≠ opSeal) :
    SeqSteps E s.commandSteps (s.atPos (.deriveH, 0#64))
      (if tagDiff (s.fullTag E (s.ctByte E)) s.tagin s.tagBytes = 0#8 then release (s.tagFormed E)
        else zeroize (s.tagFormed E)).endCommand := by
  have htag := seqSteps_tagFormed h
  rw [State.tagUse, if_neg hop] at htag
  rw [State.commandSteps, if_neg hop]
  exact htag.trans (seqSteps_verifyTag h.running)

/-! ## What the functions of a message read (41_counter_keystream.md R102, 42_ghash_accumulator.md R126) -/

/-- Only the bytes below the length are hashed. -/
theorem paddedBlocks_congr {b c : Nat → Byte} {len : Nat} (h : ∀ k, k < len → b k = c k) :
    paddedBlocks b len = paddedBlocks c len := by
  refine List.map_congr_left fun i _ => congrArg blockOfBytes (List.map_congr_left fun k hk => h _ ?_)
  have hbound : k < min 16 (len - 16 * i) := List.mem_range.1 hk
  omega

theorem ghash_congr (h : Block) {a a' c c' : Nat → Byte} {la lc : Nat} (ha : ∀ k, k < la → a k = a' k)
    (hc : ∀ k, k < lc → c k = c' k) : ghash h a la c lc = ghash h a' la c' lc := by
  rw [ghash, paddedBlocks_congr ha, paddedBlocks_congr hc, ghash]

theorem preCounter_congr (h : Block) {b c : Nat → Byte} {ln : Nat} (hb : ∀ k, k < ln → b k = c k) :
    preCounter h b ln = preCounter h c ln := by
  unfold preCounter
  split
  · next hcanon =>
    rw [List.map_congr_left fun k hk => hb k (hcanon ▸ List.mem_range.1 hk)]
  · exact ghash_congr h (fun _ _ => rfl) hb

/-- The same key and the same nonce: what H, J0 and the keystream are made of. -/
structure State.SameKeyAndNonce (r s : State) : Prop where
  key : r.key = s.key
  nlen : r.nlen = s.nlen
  nonce : ∀ k, k < s.nlen.toNat → r.inByte .nonce k = s.inByte .nonce k

theorem State.SameKeyAndNonce.preCounterBlock {r : State} (h : r.SameKeyAndNonce s) :
    r.preCounterBlock E = s.preCounterBlock E := by
  rw [State.preCounterBlock, State.subkey, h.key, h.nlen, preCounter_congr _ h.nonce]
  rfl

theorem State.SameKeyAndNonce.outTextByte {r : State} (h : r.SameKeyAndNonce s) {off : Nat}
    (hdin : r.inByte .din off = s.inByte .din off) : r.outTextByte E off = s.outTextByte E off := by
  rw [State.outTextByte, hdin, h.key, h.preCounterBlock, State.outTextByte]

/-- Beside KEY and the nonce the tag is made of the AAD and the ciphertext. -/
theorem State.SameKeyAndNonce.fullTag {r : State} (h : r.SameKeyAndNonce s) {c c' : Nat → Byte}
    (halen : r.alen = s.alen) (htlen : r.tlen = s.tlen)
    (haad : ∀ k, k < s.alen.toNat → r.inByte .aad k = s.inByte .aad k) (hc : ∀ k, k < s.tlen.toNat → c k = c' k) :
    r.fullTag E c = s.fullTag E c' := by
  rw [State.fullTag, State.subkey, h.key, h.preCounterBlock, halen, htlen, ghash_congr _ haad hc]
  rfl

/-! ## The ciphertext -/

/-- When the text is done DOUT holds it, if the launch left DOUT zero (R196). -/
theorem State.textDone_doutByte (hdout : s.dout = []) (off : Nat) :
    (s.textDone E).doutByte off = if off < s.tlen.toNat then s.outTextByte E off else 0#8 := by
  have hblank : (s.counterReady E).doutByte off = 0#8 := by
    rw [State.doutByte, show (s.counterReady E).dout = [] from hdout]
    rfl
  have hbyte := textDout_byte (E := E) (s := s.counterReady E) s.textBlocks off
  rw [hblank] at hbyte
  refine hbyte.trans (if_congr ?_ rfl rfl)
  change off < 16 * nblk s.tlen.toNat ∧ off < s.tlen.toNat ↔ off < s.tlen.toNat
  unfold nblk
  omega

/-- SEAL hashes what it has written. -/
theorem State.ctByte_seal (hop : cmdOp s.cmd = opSeal) (hdout : s.dout = []) {off : Nat} (hoff : off < s.tlen.toNat) :
    s.ctByte E off = s.outTextByte E off := by
  have hbyte := State.textDone_doutByte (E := E) hdout off
  rw [if_pos hoff] at hbyte
  rwa [State.ctByte, State.ctSpace, if_pos hop]

/-- OPEN hashes what it has received. -/
theorem State.ctByte_open (hop : cmdOp s.cmd ≠ opSeal) : s.ctByte E = s.inByte .din := by
  funext off
  rw [State.ctByte, State.ctSpace, if_neg hop]
  rfl

/-! ## Whole commands (45_host_access.md R190, R196; 44_aead_orchestrator.md R162) -/

variable {w : BitVec 32}

/-- A launched state, before it is given its position. -/
def State.launched (s : State) (w : BitVec 32) : State :=
  { s with
    cmd := w, state := .idle, err := .none, cause := .none, dout := [], tagout := 0#128, run := true }

theorem State.launched_inByte (s : State) (w : BitVec 32) (sp : InSpace) : (s.launched w).inByte sp = s.inByte sp := by
  cases sp <;> rfl

theorem State.launched_sameKeyAndNonce (s : State) (w : BitVec 32) : (s.launched w).SameKeyAndNonce s :=
  ⟨rfl, rfl, fun k _ => congrFun (s.launched_inByte w .nonce) k⟩

theorem launch_eq_launched (hvalid : (s.beginLaunch w).invalidCause = none) :
    launch w s = (s.launched w).atPos (.deriveH, 0#64) := by
  rw [launch_accepted hvalid]
  rfl

theorem command_eq_of_seqSteps {t : State} (hvalid : (s.beginLaunch w).invalidCause = none)
    (h : SeqSteps E (s.launched w).commandSteps ((s.launched w).atPos (.deriveH, 0#64)) t) : command E w s = t := by
  rw [command, launch_eq_launched hvalid]
  exact h.runSeq_eq

/-- What a command that ran to its end leaves. -/
def State.afterCommand (E : Block → Block → Block) (s : State) (w : BitVec 32) (st : StateCode) (e : ErrKind)
    (out : Memory) (tag : Block) : State :=
  { s with
    cmd := w, state := st, err := e, cause := .none, h := s.subkey E, hValid := true, dout := out, tagout := tag }

/-- A core at rest has nothing for CLEANUP to do. -/
theorem State.Inv.endCommand_eq (hs : s.Inv) (hr : s.run = false) : s.endCommand = s := by
  obtain ⟨-, ⟨hphase, hidx⟩, ⟨hj0, hcb, hks, hsReg, hej0, htReg, hdiff⟩, -⟩ := (State.inv_iff_idle hr).1 hs
  cases s
  simp_all [State.endCommand]

/-- DOUT when the text of a command is done. -/
def State.textOut (E : Block → Block → Block) (s : State) (w : BitVec 32) : Memory := ((s.launched w).textDone E).dout

/-- T when it is formed. -/
def State.tagOf (E : Block → Block → Block) (s : State) (w : BitVec 32) : Block :=
  (s.launched w).fullTag E ((s.launched w).ctByte E)

/-- What a launch finds that is accepted in a core at rest. -/
structure State.launches (E : Block → Block → Block) (s : State) (w : BitVec 32) : Prop where
  valid : (s.beginLaunch w).invalidCause = none
  ready : (s.launched w).readyToRun E
  rest : s.endCommand = s

/-- What is left after CLEANUP of the states in which a command can end. -/
theorem endCommand_tagFormed (s : State) (w : BitVec 32) :
    (tagEmit ((s.launched w).tagFormed E)).endCommand = s.endCommand.afterCommand E w .sealed .none (s.textOut E w)
        (trunc (s.tagOf E w) ((cmdTagbits w).toNat / 8)) ∧
      (release ((s.launched w).tagFormed E)).endCommand =
        s.endCommand.afterCommand E w .opened .none (s.textOut E w) 0#128 ∧
      (zeroize ((s.launched w).tagFormed E)).endCommand =
        s.endCommand.afterCommand E w .rejected .authFailure [] 0#128 :=
  ⟨rfl, rfl, rfl⟩

theorem command_seal (h : s.launches E w) (hop : cmdOp w = opSeal) :
    command E w s = s.afterCommand E w .sealed .none (s.textOut E w)
      (trunc (s.tagOf E w) ((cmdTagbits w).toNat / 8)) := by
  obtain ⟨hsealed, -, -⟩ := endCommand_tagFormed (E := E) s w
  rw [command_eq_of_seqSteps h.valid (seqSteps_seal h.ready hop), hsealed, h.rest]

theorem command_open (h : s.launches E w) (hop : cmdOp w ≠ opSeal) :
    command E w s = if tagDiff (s.tagOf E w) s.tagin ((cmdTagbits w).toNat / 8) = 0#8
      then s.afterCommand E w .opened .none (s.textOut E w) 0#128
      else s.afterCommand E w .rejected .authFailure [] 0#128 := by
  obtain ⟨-, hopened, hrejected⟩ := endCommand_tagFormed (E := E) s w
  rw [command_eq_of_seqSteps h.valid (seqSteps_open h.ready hop), apply_ite State.endCommand, hopened, hrejected,
    h.rest]
  rfl

end

/-! ## SEAL and OPEN as functions (44_aead_orchestrator.md R173, R174) -/

section
variable {tagbits klen : Byte} {s : State}

theorem State.acceptsCommand.invalidCause (h : s.acceptsCommand (cmdTagbits s.cmd) (cmdKlen s.cmd))
    (hrsv : cmdRsv s.cmd = 0#8) (hop : cmdOp s.cmd = opSeal ∨ cmdOp s.cmd = opOpen) : s.invalidCause = none := by
  obtain ⟨hklen, hkey, hnonce, hmax, htag, htext, haad⟩ := h
  have htagSet : (cmdTagbits s.cmd).toNat ∈ tagBitsSet := htag
  have htextMax : s.tlen.toNat ≤ maxTextBytes := htext
  have haadMax : s.alen.toNat ≤ maxAadBytes := haad
  rw [State.invalidCause, if_neg (by tauto), if_neg (by rw [hklen, hkey]; decide), if_neg hnonce.ne',
    if_neg hmax.not_gt, if_neg (not_not.2 htagSet), if_neg htextMax.not_gt, if_neg haadMax.not_gt]

theorem State.acceptsCommand.nlen_pos (h : s.acceptsCommand tagbits klen) : 0 < s.nlen.toNat := by
  obtain ⟨-, -, hnonce, -⟩ := h
  exact hnonce

theorem State.acceptsCommand.tagBytes_le (h : s.acceptsCommand tagbits klen) : tagbits.toNat / 8 ≤ 16 := by
  obtain ⟨-, -, -, -, htag, -, -⟩ := h
  simp only [List.mem_cons, List.not_mem_nil, or_false] at htag
  omega

/-- A core at rest launches every command that it accepts. -/
theorem State.Inv.launches {op : Byte} (hs : s.Inv) (hr : s.run = false) (hacc : s.acceptsCommand tagbits klen)
    (hop : op = opSeal ∨ op = opOpen) : s.launches Config.E (cmdWord op tagbits klen) := by
  obtain ⟨⟨-, hcached, -⟩, -, ⟨-, -, -, hzero, -⟩, -⟩ := (State.inv_iff_idle hr).1 hs
  refine ⟨State.acceptsCommand.invalidCause ?_ (cmdRsv_cmdWord ..) ?_, ⟨rfl, hacc.nlen_pos, hcached, hzero⟩,
    hs.endCommand_eq hr⟩
  · rw [State.beginLaunch_cmd, cmdTagbits_cmdWord, cmdKlen_cmdWord]
    exact hacc
  · rwa [State.beginLaunch_cmd, cmdOp_cmdWord]

theorem tagDiff_eq_zero_iff_tagsAgree {x y : Block} {t : Nat} (ht : t ≤ 16) :
    tagDiff x y t = 0#8 ↔ tagsAgree x y t := by
  rw [tagDiff_eq_zero_iff]
  exact ⟨fun h k hk => h k (hk.trans_le ht) hk, fun h k _ hk => h k hk⟩

theorem State.tagOf_seal {w : BitVec 32} (hop : cmdOp w = opSeal) (s : State) :
    s.tagOf Config.E w = s.fullTag Config.E (s.outTextByte Config.E) :=
  have hsame := s.launched_sameKeyAndNonce w
  hsame.fullTag rfl rfl (fun k _ => congrFun (s.launched_inByte w .aad) k) fun k hk =>
    (State.ctByte_seal (s := s.launched w) hop rfl hk).trans (hsame.outTextByte (congrFun (s.launched_inByte w .din) k))

theorem State.tagOf_open {w : BitVec 32} (hop : cmdOp w ≠ opSeal) (s : State) :
    s.tagOf Config.E w = s.fullTag Config.E (s.inByte .din) :=
  (s.launched_sameKeyAndNonce w).fullTag rfl rfl (fun k _ => congrFun (s.launched_inByte w .aad) k) fun k _ => by
    rw [State.ctByte_open hop, s.launched_inByte w .din]

theorem State.textOut_byte (s : State) (w : BitVec 32) (off : Nat) :
    (memLookup (s.textOut Config.E w) off).getD 0#8 =
      if off < s.tlen.toNat then s.outTextByte Config.E off else 0#8 := by
  rw [← (s.launched_sameKeyAndNonce w).outTextByte (congrFun (s.launched_inByte w .din) off)]
  exact State.textDone_doutByte (s := s.launched w) rfl off

/-- SEAL ends with the ciphertext in DOUT and the tag over it in TAGOUT. -/
theorem exec_sealCmd (hs : s.Inv) (hr : s.run = false) (hacc : s.acceptsCommand tagbits klen) :
    exec (.sealCmd tagbits klen) s = .next (s.afterCommand Config.E (cmdWord opSeal tagbits klen) .sealed .none
      (s.textOut Config.E (cmdWord opSeal tagbits klen))
      (trunc (s.fullTag Config.E (s.outTextByte Config.E)) (tagbits.toNat / 8))) := by
  have hcommand := command_seal (hs.launches hr hacc (.inl rfl)) (cmdOp_cmdWord opSeal tagbits klen)
  rw [State.tagOf_seal (cmdOp_cmdWord ..), cmdTagbits_cmdWord] at hcommand
  exact congrArg Host.Outcome.next ((State.hostOp_idle hr _ _).trans hcommand)

theorem cmdOp_open_ne_seal (tagbits klen : Byte) : cmdOp (cmdWord opOpen tagbits klen) ≠ opSeal := by
  rw [cmdOp_cmdWord]
  decide

/-- OPEN ends with the plaintext in DOUT or with DOUT zero, by the comparison of the tags. -/
theorem exec_openCmd (hs : s.Inv) (hr : s.run = false) (hacc : s.acceptsCommand tagbits klen) :
    exec (.openCmd tagbits klen) s = .next
      (if tagDiff (s.fullTag Config.E (s.inByte .din)) s.tagin (tagbits.toNat / 8) = 0#8
        then s.afterCommand Config.E (cmdWord opOpen tagbits klen) .opened .none
          (s.textOut Config.E (cmdWord opOpen tagbits klen)) 0#128
        else s.afterCommand Config.E (cmdWord opOpen tagbits klen) .rejected .authFailure [] 0#128) := by
  have hop := cmdOp_open_ne_seal tagbits klen
  have hcommand := command_open (hs.launches hr hacc (.inr rfl)) hop
  rw [State.tagOf_open hop, cmdTagbits_cmdWord] at hcommand
  exact congrArg Host.Outcome.next ((State.hostOp_idle hr _ _).trans hcommand)

theorem exec_openCmd_accepts (hs : s.Inv) (hr : s.run = false) (hacc : s.acceptsCommand tagbits klen)
    (htag : tagsAgree (s.fullTag Config.E (s.inByte .din)) s.tagin (tagbits.toNat / 8)) :
    exec (.openCmd tagbits klen) s = .next (s.afterCommand Config.E (cmdWord opOpen tagbits klen) .opened .none
      (s.textOut Config.E (cmdWord opOpen tagbits klen)) 0#128) := by
  rw [exec_openCmd hs hr hacc, if_pos ((tagDiff_eq_zero_iff_tagsAgree hacc.tagBytes_le).2 htag)]

theorem exec_openCmd_rejects (hs : s.Inv) (hr : s.run = false) (hacc : s.acceptsCommand tagbits klen)
    (htag : ¬ tagsAgree (s.fullTag Config.E (s.inByte .din)) s.tagin (tagbits.toNat / 8)) :
    exec (.openCmd tagbits klen) s =
      .next (s.afterCommand Config.E (cmdWord opOpen tagbits klen) .rejected .authFailure [] 0#128) := by
  rw [exec_openCmd hs hr hacc, if_neg ((tagDiff_eq_zero_iff_tagsAgree hacc.tagBytes_le).not.2 htag)]

/-- An OPEN that ended Opened had a tag that agrees. -/
theorem tagsAgree_of_opened {t : State} (hs : s.Inv) (hr : s.run = false) (hacc : s.acceptsCommand tagbits klen)
    (hexec : exec (.openCmd tagbits klen) s = .next t) (hopened : t.state = .opened) :
    tagsAgree (s.fullTag Config.E (s.inByte .din)) s.tagin (tagbits.toNat / 8) := by
  by_contra htag
  rw [exec_openCmd_rejects hs hr hacc htag] at hexec
  cases hexec
  cases hopened

end

/-- Settles O47: the recomputed tag does not depend on TAGIN, so it agrees with the former TAGIN only, and an OPEN with a
tag that disagrees is rejected. -/
theorem tamperedTagIsRejected : Obligations.TamperedTagIsRejected := by
  intro tagbits klen s t g k hs hr hacc hexec hopened hk hne
  have hagree := tagsAgree_of_opened hs hr hacc hexec hopened
  have hdisagree : ¬ tagsAgree (s.fullTag Config.E (s.inByte .din)) g (tagbits.toNat / 8) :=
    fun h => hne ((h k hk).symm.trans (hagree k hk))
  have hinv : ({ s with tagin := g } : State).Inv := State.writeInputRegisters_inv hs hr s.nlen s.alen s.tlen g
  exact ⟨_, exec_openCmd_rejects (s := { s with tagin := g }) hinv hr hacc hdisagree, rfl, rfl, fun _ => rfl⟩

/-- Settles O48: the ciphertext is made of KEY, nonce and text, the tag of these and the AAD, and TRUNC keeps its leading
bytes. -/
theorem aadAndTagLengthLeaveCiphertext : Obligations.AadAndTagLengthLeaveCiphertext := by
  intro tagbits tagbits' klen s r t u hsInv hrInv hs hr hsacc hracc hkey hnlen htlen hnonce hdin hseal hseal'
  have hsame : r.SameKeyAndNonce s := ⟨hkey, hnlen, hnonce⟩
  have htext (k : Nat) (hk : k < s.tlen.toNat) : r.outTextByte Config.E k = s.outTextByte Config.E k :=
    hsame.outTextByte (hdin k hk)
  rw [exec_sealCmd hsInv hs hsacc] at hseal
  rw [exec_sealCmd hrInv hr hracc] at hseal'
  cases hseal
  cases hseal'
  refine ⟨fun off => ?_, fun halen haad k hk hk' => ?_⟩
  · refine (State.textOut_byte r _ off).trans (Eq.trans ?_ (State.textOut_byte s _ off).symm)
    rw [htlen]
    exact ite_congr rfl (htext off) fun _ => rfl
  · have hk16 : k < 16 := hk.trans_le hsacc.tagBytes_le
    change byteAt (trunc _ _) k = byteAt (trunc _ _) k
    rw [byteAt_trunc _ _ _ hk16, byteAt_trunc _ _ _ hk16, if_pos hk, if_pos hk', hsame.fullTag halen htlen haad htext]

end Sys2Proof.Machine

/-! PROOFS. The statements of 44_aead_orchestrator.md: VALIDATE, the successor function and the count of the steps it
makes, the edges of STATE, and SEAL and OPEN as functions. -/

namespace Sys2Proof.Machine

open Sys2Proof

/-! ## VALIDATE (R162) -/

theorem cmdTagbits_toNat (w : BitVec 32) : (cmdTagbits w).toNat = w.toNat / 2 ^ 8 % 256 := by
  rw [cmdTagbits_eq_ofNat, BitVec.toNat_ofNat]

theorem cmdKlen_toNat (w : BitVec 32) : (cmdKlen w).toNat = w.toNat / 2 ^ 16 % 256 := by
  rw [cmdKlen_eq_ofNat, BitVec.toNat_ofNat]

/-- The outcome of the checks as a change of state. -/
def State.reportCause (s : State) : Option Cause → State
  | some c => { s with err := .invalidInput, cause := c }
  | none => s

theorem validate_eq_reportCause (s : State) : validate s = s.reportCause s.invalidCause := by
  unfold validate
  split
  · next c hcause => rw [hcause]; rfl
  · next hvalid => rw [hvalid]; rfl

/-- The checks, on the fields of the command word as numbers (30_encoding.md R60). -/
theorem State.invalidCause_eq (s : State) : s.invalidCause =
    if s.cmd.toNat / 2 ^ 24 ≠ 0 ∨ (s.cmd.toNat % 256 ≠ 1 ∧ s.cmd.toNat % 256 ≠ 2) then some .reservedCmd
    else if s.cmd.toNat / 2 ^ 16 % 256 ≠ 16 ∨ s.keyValid = false then some .key
    else if s.nlen.toNat = 0 then some .nonceZero
    else if s.nlen.toNat > s.maxNonceBytes then some .nonceTooLong
    else if s.cmd.toNat / 2 ^ 8 % 256 ∉ [96, 104, 112, 120, 128] then some .tagLen
    else if s.tlen.toNat > 2 ^ 36 - 32 then some .textTooLong
    else if s.alen.toNat > 2 ^ 36 - 32 then some .aadTooLong
    else none := by
  have hcommand : (cmdRsv s.cmd ≠ 0#8 ∨ (cmdOp s.cmd ≠ opSeal ∧ cmdOp s.cmd ≠ opOpen)) ↔
      (s.cmd.toNat / 2 ^ 24 ≠ 0 ∨ (s.cmd.toNat % 256 ≠ 1 ∧ s.cmd.toNat % 256 ≠ 2)) := by
    simp only [ne_eq, cmdRsv_eq_zero_iff, cmdOp_eq_opSeal_iff, cmdOp_eq_opOpen_iff]
  rw [State.invalidCause, cmdKlen_toNat, cmdTagbits_toNat]
  exact if_congr hcommand rfl rfl

/-- Settles O29: VALIDATE reports the outcome of the chain of checks, and each check's cause on its own branch. -/
theorem validateReportsTheFirstFailure : Obligations.ValidateReportsTheFirstFailure := by
  intro s
  have hexec : exec .validate s = .next (s.reportCause s.invalidCause) :=
    congrArg Host.Outcome.next (validate_eq_reportCause s)
  rw [hexec, State.invalidCause_eq]
  simp only [apply_ite s.reportCause]
  rfl

/-! ## A step of a running command (R171) -/

section
variable {E : Block → Block → Block} {s t : State} {u : Uop}

theorem fetch_running (hr : s.run = true) (hreset : Request.reset ∉ s.pending) (hu : s.phase = u.code) :
    fetch s = .sequenced u.toInstr := by
  have harrived : s.resetArrived = false := by simpa [State.resetArrived] using hreset
  simp only [fetch, hr, harrived, hu, decode_phase_code, if_true, Bool.false_eq_true, if_false]

theorem step_running (hr : s.run = true) (hreset : Request.reset ∉ s.pending) (hu : s.phase = u.code) :
    step s = .next (seqStep Config.E s) := by
  have hcode : Uop.ofCode s.phase = some u := hu ▸ Uop.ofCode_code u
  simp only [step, fetch_running hr hreset hu, exec_toInstr, advanceFrom, hcode, seqStep_of_ofCode hcode]

/-- A step of a running command that answers a next state is a step of the sequencer, from a PHASE that names a
micro-operation. -/
theorem step_running_next (hr : s.run = true) (hreset : Request.reset ∉ s.pending) (h : step s = .next t) :
    ∃ u : Uop, s.phase = u.code ∧ t = seqStep Config.E s := by
  obtain ⟨hidle, -, -⟩ | ⟨-, harrived, -⟩ | ⟨-, -, ⟨u, hu⟩, ht⟩ | ⟨hidle, -⟩ := step_next_cases h
  · exact absurd (hr.symm.trans hidle) (nomatch ·)
  · exact absurd (List.contains_iff_mem.1 harrived) hreset
  · exact ⟨u, Uop.ofCode_eq_some hu, ht⟩
  · exact absurd (hr.symm.trans hidle) (nomatch ·)

/-- The same command word and the same lengths: what the successor function reads beside DIFF. -/
structure State.SameLengths (t s : State) : Prop where
  cmd : t.cmd = s.cmd
  nlen : t.nlen = s.nlen
  alen : t.alen = s.alen
  tlen : t.tlen = s.tlen

theorem State.SameCommand.sameLengths (h : t.SameCommand s) : t.SameLengths s := ⟨h.cmd, h.nlen, h.alen, h.tlen⟩

theorem State.SameLengths.nonceBlocks (h : t.SameLengths s) : t.nonceBlocks = s.nonceBlocks := by
  rw [State.nonceBlocks, h.nlen, State.nonceBlocks]

theorem State.SameLengths.aadBlocks (h : t.SameLengths s) : t.aadBlocks = s.aadBlocks := by
  rw [State.aadBlocks, h.alen, State.aadBlocks]

theorem State.SameLengths.textBlocks (h : t.SameLengths s) : t.textBlocks = s.textBlocks := by
  rw [State.textBlocks, h.tlen, State.textBlocks]

/-- DIFF is read after TAG_CMP only. -/
theorem State.SameLengths.successor (h : t.SameLengths s) (hdiff : u = .tagCmp → (t.diff = 0#8 ↔ s.diff = 0#8))
    (i : BitVec 64) : t.successor u i = s.successor u i := by
  cases u with
  | tagCmp => exact if_congr (hdiff rfl) rfl rfl
  | _ => simp only [State.successor, State.afterAad, h.nonceBlocks, h.aadBlocks, h.textBlocks, h.cmd, h.nlen]

theorem seqStep_cleanup (hu : s.phase = Uop.cleanup.code) : seqStep E s = s.endCommand := by
  rw [seqStep_of_ofCode (hu ▸ Uop.ofCode_code .cleanup)]
  rfl

/-- A step of the sequencer but CLEANUP is the effect, at the position of the successor. -/
theorem seqStep_eq_atPos (hu : s.phase = u.code) (hcleanup : u ≠ .cleanup) :
    ∃ p, (uopEffect E u s).successor u s.idx = some p ∧ seqStep E s = (uopEffect E u s).atPos p := by
  obtain ⟨v, -, j, hnext⟩ := State.successor_exists hcleanup (uopEffect E u s) s.idx
  refine ⟨(v, j), hnext, ?_⟩
  rw [seqStep_of_ofCode (hu ▸ Uop.ofCode_code u), State.advance_of_successor hnext]
  rfl

theorem State.advance_sameCommand (s : State) (u : Uop) (i : BitVec 64) : (s.advance u i).SameCommand s :=
  ⟨s.advance_key u i, s.advance_keyValid u i, s.advance_cmd u i, s.advance_nlen u i, s.advance_alen u i,
    s.advance_tlen u i, s.advance_maxNonceBytes u i⟩

theorem State.SameCommand.trans {r : State} (hts : t.SameCommand s) (hsr : s.SameCommand r) : t.SameCommand r :=
  ⟨hts.key.trans hsr.key, hts.keyValid.trans hsr.keyValid, hts.cmd.trans hsr.cmd, hts.nlen.trans hsr.nlen,
    hts.alen.trans hsr.alen, hts.tlen.trans hsr.tlen, hts.maxNonceBytes.trans hsr.maxNonceBytes⟩

theorem seqStep_sameCommand (E : Block → Block → Block) (s : State) : (seqStep E s).SameCommand s := by
  unfold seqStep
  split
  · next u _ => exact (State.advance_sameCommand _ u s.idx).trans (uopEffect_sameCommand E u s)
  · exact ⟨rfl, rfl, rfl, rfl, rfl, rfl, rfl⟩

theorem seqStep_sameLengths (E : Block → Block → Block) (s : State) : (seqStep E s).SameLengths s :=
  (seqStep_sameCommand E s).sameLengths

/-- PHASE and IDX name this position. -/
def State.standsAt (t : State) (p : Uop × BitVec 64) : Prop := t.phase = p.1.code ∧ t.idx = p.2

/-- Where a step of the sequencer leads: RUN stays, and the position is the successor, by the lengths, the command word
and the DIFF that the step leaves. -/
theorem seqStep_standsAt (hu : s.phase = u.code) (hcleanup : u ≠ .cleanup) :
    (seqStep E s).run = s.run ∧
      ∃ p, (seqStep E s).successor u s.idx = some p ∧ (seqStep E s).standsAt p := by
  obtain ⟨p, hnext, heq⟩ := seqStep_eq_atPos (E := E) hu hcleanup
  rw [heq]
  exact ⟨uopEffect_run hcleanup s, p, (State.successor_atPos _ p u s.idx).trans hnext, rfl, rfl⟩

end

/-- Settles O50: the successor reads the command word, the lengths and, after TAG_CMP, whether DIFF is zero. -/
theorem sequenceIgnoresData : Obligations.SequenceIgnoresData := by
  intro s r t u hs hr hsreset hrreset hphase hidx hcmd hnlen halen htlen hst hru hdiff
  obtain ⟨v, hsv, rfl⟩ := step_running_next hs hsreset hst
  obtain ⟨-, -, rfl⟩ := step_running_next hr hrreset hru
  have hrv : r.phase = v.code := hphase.symm.trans hsv
  by_cases hcleanup : v = .cleanup
  · subst hcleanup
    rw [seqStep_cleanup hsv, seqStep_cleanup hrv]
    exact ⟨rfl, rfl, rfl⟩
  · obtain ⟨hsrun, p, hsp, hsphase, hsidx⟩ := seqStep_standsAt (E := Config.E) hsv hcleanup
    obtain ⟨hrrun, q, hrq, hrphase, hridx⟩ := seqStep_standsAt (E := Config.E) hrv hcleanup
    have hslen := seqStep_sameLengths Config.E s
    have hrlen := seqStep_sameLengths Config.E r
    have hsame : (seqStep Config.E s).SameLengths (seqStep Config.E r) :=
      ⟨hslen.cmd.trans (hcmd.trans hrlen.cmd.symm), hslen.nlen.trans (hnlen.trans hrlen.nlen.symm),
        hslen.alen.trans (halen.trans hrlen.alen.symm), hslen.tlen.trans (htlen.trans hrlen.tlen.symm)⟩
    have hnext := hsame.successor (u := v) (fun hv => hdiff (hsv.trans (congrArg Uop.code hv))) s.idx
    rw [hsp, hidx, hrq] at hnext
    obtain rfl := Option.some.inj hnext
    exact ⟨hsrun.trans (hs.trans (hrrun.trans hr).symm), hsphase.trans hrphase.symm, hsidx.trans hridx.symm⟩

/-! ## The table of R171 -/

theorem exec_wrCmd {s : State} (hr : s.run = false) (w : BitVec 32) : exec (.wrCmd w) s = .next (launch w s) :=
  congrArg Host.Outcome.next (State.hostOp_idle hr _ _)

/-- A launch is refused, with the position as it was, or starts at DERIVE_H (45_host_access.md R196). -/
theorem launch_position (w : BitVec 32) {s : State} (hr : s.run = false) :
    if (launch w s).err = .invalidInput then
      (launch w s).run = false ∧ (launch w s).phase = s.phase ∧ (launch w s).idx = s.idx
    else (launch w s).run = true ∧ (launch w s).standsAt (.deriveH, 0#64) := by
  obtain ⟨c, hrefused⟩ | haccepted := launch_cases w s
  · rw [hrefused]; exact ⟨hr, rfl, rfl⟩
  · rw [haccepted]; exact ⟨rfl, rfl, rfl⟩

section
variable {E : Block → Block → Block} {s t : State} {u v w : Uop} {i j : BitVec 64} {p q : Uop × BitVec 64} {c : Prop}
  [Decidable c]

theorem seqStep_standsAt_of_successor (hu : s.phase = u.code) (hcleanup : u ≠ .cleanup)
    (hnext : (seqStep E s).successor u s.idx = some p) : (seqStep E s).standsAt p := by
  obtain ⟨-, q, hq, hpos⟩ := seqStep_standsAt (E := E) hu hcleanup
  obtain rfl := Option.some.inj (hq.symm.trans hnext)
  exact hpos

/-- Where a step leads, by the state before it, except after TAG_CMP. -/
theorem seqStep_standsAt_next (hu : s.phase = u.code) (hcleanup : u ≠ .cleanup) (hcmp : u ≠ .tagCmp)
    (hnext : s.successor u s.idx = some p) : (seqStep E s).standsAt p :=
  seqStep_standsAt_of_successor hu hcleanup
    (((seqStep_sameLengths E s).successor (fun h => absurd h hcmp) s.idx).trans hnext)

/-- A row of the table with a test. -/
theorem seqStep_standsAt_branch (hu : s.phase = u.code) (hcleanup : u ≠ .cleanup) (hcmp : u ≠ .tagCmp)
    (hnext : s.successor u s.idx = if c then some p else some q) :
    if c then (seqStep E s).standsAt p else (seqStep E s).standsAt q := by
  have hpos := seqStep_standsAt_next (E := E) hu hcleanup hcmp (hnext.trans (apply_ite some c p q).symm)
  rwa [apply_ite (State.standsAt _)] at hpos

/-- Two positions with one index differ in the code alone. -/
theorem State.codeAndIndex_ite {x y : Byte} (hpos : if c then t.phase = x ∧ t.idx = j else t.phase = y ∧ t.idx = j) :
    t.phase = (if c then x else y) ∧ t.idx = j := by
  by_cases hc : c
  · rw [if_pos hc] at hpos ⊢; exact hpos
  · rw [if_neg hc] at hpos ⊢; exact hpos

/-- The rows of GH_INIT and GH_AAD, which share their tail. -/
theorem seqStep_standsAt_afterAad (hu : s.phase = u.code) (hcleanup : u ≠ .cleanup) (hcmp : u ≠ .tagCmp)
    (hnext : s.successor u s.idx = if c then some p else some s.afterAad) :
    if c then (seqStep E s).standsAt p
    else (seqStep E s).phase = (if 0 < s.textBlocks then Uop.ghCt.code else Uop.ghLen.code) ∧
      (seqStep E s).idx = 0#64 := by
  have hpos := seqStep_standsAt_branch (E := E) hu hcleanup hcmp hnext
  by_cases hc : c
  · rw [if_pos hc] at hpos ⊢; exact hpos
  · rw [if_neg hc, State.afterAad, apply_ite (State.standsAt _)] at hpos
    rw [if_neg hc]
    exact State.codeAndIndex_ite hpos

end

/-- Settles O7: a launch by its two outcomes; a step by the micro-operation that PHASE names, whose successor is the
row of the table. -/
theorem successorFollowsTheTable : Obligations.SuccessorFollowsTheTable := by
  refine ⟨fun w s t hr hexec => ?_, fun s t hr hreset hstep => ?_⟩
  · rw [exec_wrCmd hr] at hexec
    cases hexec
    exact launch_position w hr
  obtain ⟨u, hu, rfl⟩ := step_running_next hr hreset hstep
  refine ⟨fun h => ?deriveH, fun h => ?j096, fun h => ?nghInit, fun h => ?nghAbsorb, fun h => ?nghLen, fun h => ?j0Take,
    fun h => ?ctrInit, fun h => ?ksBlock, fun h => ?xorText, fun h => ?ghInit, fun h => ?ghAad, fun h => ?ghCt,
    fun h => ?ghLen, fun h => ?maskJ0, fun h => ?tagForm, fun h => ?tagEmit, fun h => ?tagCmp, fun h => ?release,
    fun h => ?zeroize, fun h => ?cleanup, fun h => ?running⟩
  case j096 => exact seqStep_standsAt_next (u := .j096) h nofun nofun rfl
  case nghInit => exact seqStep_standsAt_next (u := .nghInit) h nofun nofun rfl
  case nghLen => exact seqStep_standsAt_next (u := .nghLen) h nofun nofun rfl
  case j0Take => exact seqStep_standsAt_next (u := .j0Take) h nofun nofun rfl
  case ksBlock => exact seqStep_standsAt_next (u := .ksBlock) h nofun nofun rfl
  case ghLen => exact seqStep_standsAt_next (u := .ghLen) h nofun nofun rfl
  case maskJ0 => exact seqStep_standsAt_next (u := .maskJ0) h nofun nofun rfl
  case tagEmit => exact seqStep_standsAt_next (u := .tagEmit) h nofun nofun rfl
  case release => exact seqStep_standsAt_next (u := .release) h nofun nofun rfl
  case zeroize => exact seqStep_standsAt_next (u := .zeroize) h nofun nofun rfl
  case nghAbsorb => exact seqStep_standsAt_branch (u := .nghAbsorb) h nofun nofun rfl
  case xorText => exact seqStep_standsAt_branch (u := .xorText) h nofun nofun rfl
  case ghCt => exact seqStep_standsAt_branch (u := .ghCt) h nofun nofun rfl
  case deriveH => exact State.codeAndIndex_ite (seqStep_standsAt_branch (u := .deriveH) h nofun nofun rfl)
  case ctrInit => exact State.codeAndIndex_ite (seqStep_standsAt_branch (u := .ctrInit) h nofun nofun rfl)
  case ghInit => exact State.codeAndIndex_ite (seqStep_standsAt_afterAad (u := .ghInit) h nofun nofun rfl)
  case ghAad => exact seqStep_standsAt_afterAad (u := .ghAad) h nofun nofun rfl
  case tagForm =>
    exact State.codeAndIndex_ite (seqStep_standsAt_branch (u := .tagForm) h nofun nofun
      (if_congr cmdOp_eq_opSeal_iff rfl rfl))
  case tagCmp =>
    have hrow := seqStep_standsAt_of_successor (E := Config.E) (u := .tagCmp) h nofun (apply_ite some _ _ _).symm
    rw [apply_ite (State.standsAt _)] at hrow
    exact State.codeAndIndex_ite hrow
  case cleanup => rw [seqStep_cleanup h]; exact ⟨rfl, rfl, rfl⟩
  case running =>
    obtain ⟨hrun, -⟩ := seqStep_standsAt (E := Config.E) hu (fun hc => h (hu.trans (congrArg Uop.code hc)))
    exact hrun.trans hr

/-! ## How many steps are left (R172) -/

/-- The micro-operations left to CLEANUP, this one among them, where `u` is next at index `i`: the variant of the
successor function. -/
def State.stepsLeft (s : State) (u : Uop) (i : Nat) : Nat :=
  let fromTagForm := if cmdOp s.cmd = opSeal then 3 else 4
  let fromGhInit := s.aadBlocks + s.textBlocks + fromTagForm + 3
  let fromCtrInit := 2 * s.textBlocks + fromGhInit + 1
  match u with
  | .deriveH => s.j0Steps + fromCtrInit + 1
  | .j096 => fromCtrInit + 1
  | .nghInit => s.nonceBlocks + fromCtrInit + 3
  | .nghAbsorb => s.nonceBlocks - i + fromCtrInit + 2
  | .nghLen => fromCtrInit + 2
  | .j0Take => fromCtrInit + 1
  | .ctrInit => fromCtrInit
  | .ksBlock => 2 * (s.textBlocks - i) + fromGhInit
  | .xorText => 2 * (s.textBlocks - i) - 1 + fromGhInit
  | .ghInit => fromGhInit
  | .ghAad => s.aadBlocks - i + s.textBlocks + fromTagForm + 2
  | .ghCt => s.textBlocks - i + fromTagForm + 2
  | .ghLen => fromTagForm + 2
  | .maskJ0 => fromTagForm + 1
  | .tagForm => fromTagForm
  | .tagEmit => 2
  | .tagCmp => 3
  | .release => 2
  | .zeroize => 2
  | .cleanup => 1

section
variable {E : Block → Block → Block} {s t : State} {u v : Uop} {i j : BitVec 64}

theorem State.SameLengths.stepsLeft (h : t.SameLengths s) (u : Uop) (i : Nat) : t.stepsLeft u i = s.stepsLeft u i := by
  simp only [State.stepsLeft, State.j0Steps, h.nonceBlocks, h.aadBlocks, h.textBlocks, h.cmd, h.nlen]

theorem State.stepsLeft_deriveH (s : State) : s.stepsLeft .deriveH 0 = s.commandSteps := by
  simp only [State.stepsLeft, State.commandSteps]
  split <;> omega

theorem State.stepsLeft_pos (s : State) (u : Uop) (i : Nat) : 0 < s.stepsLeft u i := by
  have htag : 0 < if cmdOp s.cmd = opSeal then 3 else 4 := by split <;> decide
  cases u <;> simp only [State.stepsLeft] <;> omega

theorem State.stepsLeft_afterAad (h : some s.afterAad = some (v, j)) :
    s.stepsLeft v j.toNat = s.stepsLeft .ghCt 0 := by
  unfold State.afterAad at h
  split at h
  · cases h; rfl
  · next hnone => cases h; simp only [State.stepsLeft]; omega

/-- The variant goes down by one. -/
theorem State.stepsLeft_successor (hi : i.toNat < s.indexBound u) (h : s.successor u i = some (v, j)) :
    s.stepsLeft u i.toNat = s.stepsLeft v j.toNat + 1 := by
  cases u with
  | j096 | nghInit | nghLen | j0Take | ghLen | maskJ0 | tagEmit | release | zeroize => cases h; rfl
  | deriveH =>
    simp only [State.successor] at h
    split at h
    · next hcanon => cases h; simp only [State.stepsLeft, State.j0Steps, if_pos hcanon]; omega
    · next hcanon => cases h; simp only [State.stepsLeft, State.j0Steps, if_neg hcanon]; omega
  | tagForm =>
    simp only [State.successor] at h
    split at h
    · next hseal => cases h; simp only [State.stepsLeft, if_pos hseal]
    · next hseal => cases h; simp only [State.stepsLeft, if_neg hseal]
  | tagCmp => simp only [State.successor] at h; split at h <;> cases h <;> rfl
  | ksBlock =>
    have hlt : i.toNat < s.textBlocks := hi
    cases h; simp only [State.stepsLeft]; omega
  | nghAbsorb | ghCt | xorText =>
    simp only [State.successor] at h
    simp only [State.indexBound] at hi
    split at h
    · next hlt => cases h; rw [toNat_add_one_of_lt_nblk hlt]; simp only [State.stepsLeft]; omega
    · next hlast => cases h; simp only [State.stepsLeft]; omega
  | ctrInit =>
    simp only [State.successor] at h
    split at h
    · cases h; simp only [State.stepsLeft, BitVec.toNat_zero]; omega
    · next hnone => cases h; simp only [State.stepsLeft]; omega
  | ghInit =>
    simp only [State.successor] at h
    split at h
    · cases h; rfl
    · next hnone => rw [State.stepsLeft_afterAad h]; simp only [State.stepsLeft]; omega
  | ghAad =>
    simp only [State.successor] at h
    simp only [State.indexBound] at hi
    split at h
    · next hlt => cases h; rw [toNat_add_one_of_lt_nblk hlt]; simp only [State.stepsLeft]; omega
    · next hlast => rw [State.stepsLeft_afterAad h]; simp only [State.stepsLeft]; omega
  | cleanup => cases h

/-- `n` micro-operations are left: RUN = 0 where there is none, and otherwise PHASE and IDX stand in range at a position
that is `n` steps before the end. -/
def State.remaining (s : State) (n : Nat) : Prop :=
  (s.run = false ∧ n = 0) ∨
    (s.run = true ∧ 0 < s.nonceBlocks ∧
      ∃ u : Uop, s.phase = u.code ∧ s.idx.toNat < s.indexBound u ∧ n = s.stepsLeft u s.idx.toNat)

theorem State.remaining.run_iff {n : Nat} (h : s.remaining n) : s.run = true ↔ 0 < n := by
  obtain ⟨hr, rfl⟩ | ⟨hr, -, u, -, -, rfl⟩ := h
  · simp [hr]
  · simp [hr, s.stepsLeft_pos]

theorem State.remaining.position {n : Nat} (h : s.remaining (n + 1)) : ∃ u : Uop, s.phase = u.code := by
  obtain ⟨-, hzero⟩ | ⟨-, -, u, hu, -, -⟩ := h
  · cases hzero
  · exact ⟨u, hu⟩

/-- A step of the sequencer is one of the steps left. -/
theorem State.remaining.after_seqStep {n : Nat} (h : s.remaining (n + 1)) : (seqStep E s).remaining n := by
  obtain ⟨-, hzero⟩ | ⟨hr, hnonce, u, hu, hi, hn⟩ := h
  · cases hzero
  by_cases hcleanup : u = .cleanup
  · subst hcleanup
    rw [seqStep_cleanup hu]
    exact .inl ⟨rfl, Nat.succ.inj hn⟩
  · have hlen := seqStep_sameLengths E s
    obtain ⟨hrun, ⟨v, j⟩, hnext, hphase, hidx⟩ := seqStep_standsAt (E := E) hu hcleanup
    have hrange : s.idx.toNat < (seqStep E s).indexBound u := hi.trans_eq ((seqStep_sameCommand E s).indexBound u).symm
    have hnonce' : 0 < (seqStep E s).nonceBlocks := hnonce.trans_eq hlen.nonceBlocks.symm
    have hleft := State.stepsLeft_successor hrange hnext
    rw [hlen.stepsLeft u, ← hn] at hleft
    refine .inr ⟨hrun.trans hr, hnonce', v, hphase, ?_, ?_⟩
    · rw [hidx]; exact State.successor_inRange hnonce' hrange hnext
    · rw [hidx]; exact Nat.succ.inj hleft

theorem State.remaining.after_runSeq {n k : Nat} (h : s.remaining (n + k)) : (runSeq E k s).remaining n := by
  induction k generalizing s with
  | zero => exact h
  | succ k ih =>
    rw [runSeq_succ_running (h.run_iff.2 (Nat.succ_pos _))]
    exact ih h.after_seqStep

/-- An accepted launch stands before the counted steps. -/
theorem launch_remaining {w : BitVec 32} (hvalid : (s.beginLaunch w).invalidCause = none) :
    (launch w s).remaining (launch w s).commandSteps := by
  rw [launch_accepted hvalid, ← State.stepsLeft_deriveH]
  exact .inr ⟨rfl, State.nonceBlocks_pos (s := s.beginLaunch w) hvalid, .deriveH, rfl, Nat.one_pos, rfl⟩

/-- A command performed as one operation ends with RUN = 0 (45_host_access.md R190). -/
theorem command_run (hr : s.run = false) (w : BitVec 32) : (command E w s).run = false := by
  cases hc : (s.beginLaunch w).invalidCause with
  | some c =>
    have hidle : (launch w s).run = false := by rw [launch_refused hc]; exact hr
    rwa [command, runSeq_idle hidle]
  | none =>
    have hleft := launch_remaining hc
    rw [← Nat.zero_add (launch w s).commandSteps] at hleft
    exact Bool.eq_false_iff.2 fun hrun => Nat.lt_irrefl 0 (hleft.after_runSeq.run_iff.1 hrun)

end

/-! ## The steps of the machine -/

section
variable {s : State}

theorem seqStep_pending (E : Block → Block → Block) (s : State) : (seqStep E s).pending = s.pending := by
  unfold seqStep
  split
  · next u _ =>
    rw [State.advance_pending]
    cases u with
    | deriveH => obtain ⟨-, h⟩ | h := uopEffect_deriveH_cases E s <;> rw [h]
    | _ => rfl
  · rfl

theorem core_run_succ {M : Host.Core} {s t : M.State} (h : M.step s = .next t) (k : Nat) :
    M.run (k + 1) s = M.run k t := by
  rw [Host.Core.run, h]

/-- As many steps of the machine as are left of a command, or fewer, are as many steps of the sequencer. -/
theorem State.remaining.core_run {n k : Nat} (h : s.remaining (n + k)) (hreset : Request.reset ∉ s.pending) :
    Host.Core.run core k s = .next (runSeq Config.E k s) := by
  induction k generalizing s with
  | zero => rfl
  | succ k ih =>
    have hr : s.run = true := h.run_iff.2 (Nat.succ_pos _)
    obtain ⟨u, hu⟩ := h.position
    rw [runSeq_succ_running hr]
    exact (core_run_succ (M := core) (step_running hr hreset hu) k).trans
      (ih h.after_seqStep (by rwa [seqStep_pending]))

theorem State.countedSteps_eq (s : State) : s.countedSteps = s.commandSteps := by
  rw [State.commandSteps, if_congr cmdOp_eq_opSeal_iff rfl rfl]
  rfl

end

/-- Settles O42: a launch that sets RUN is followed by the steps the variant counts, RUN being 1 while one is left. -/
theorem commandTakesTheCountedSteps : Obligations.CommandTakesTheCountedSteps := by
  intro w s l hr hreset hexec hlrun j hj
  rw [exec_wrCmd hr] at hexec
  cases hexec
  rw [State.countedSteps_eq] at hj ⊢
  have hvalid : (s.beginLaunch w).invalidCause = none := by
    cases hc : (s.beginLaunch w).invalidCause with
    | some c => rw [launch_refused hc] at hlrun; exact absurd (hr.symm.trans hlrun) (nomatch ·)
    | none => rfl
  have hpending : (launch w s).pending = s.pending := by rw [launch_accepted hvalid]; rfl
  have hleft := launch_remaining hvalid
  rw [← Nat.sub_add_cancel hj] at hleft
  refine ⟨_, hleft.core_run (by rwa [hpending]), ?_⟩
  rw [hleft.after_runSeq.run_iff, Nat.sub_pos_iff_lt]

/-! ## STATE (R170) -/

section
variable {s t : State}

/-- What a micro-operation does to STATE: nothing, or one of the five edges inside a command. -/
theorem uopEffect_state_cases (E : Block → Block → Block) (u : Uop) (s : State) :
    (uopEffect E u s).state = s.state ∨ (u = .ghInit ∧ (uopEffect E u s).state = .keystreamApplied) ∨
      (u = .tagForm ∧ (uopEffect E u s).state = .tagComputed) ∨ (u = .tagEmit ∧ (uopEffect E u s).state = .sealed) ∨
      (u = .release ∧ (uopEffect E u s).state = .opened) ∨ (u = .zeroize ∧ (uopEffect E u s).state = .rejected) := by
  cases u with
  | deriveH => obtain ⟨-, h⟩ | h := uopEffect_deriveH_cases E s <;> rw [h] <;> exact .inl rfl
  | ghInit => exact .inr (.inl ⟨rfl, rfl⟩)
  | tagForm => exact .inr (.inr (.inl ⟨rfl, rfl⟩))
  | tagEmit => exact .inr (.inr (.inr (.inl ⟨rfl, rfl⟩)))
  | release => exact .inr (.inr (.inr (.inr (.inl ⟨rfl, rfl⟩))))
  | zeroize => exact .inr (.inr (.inr (.inr (.inr ⟨rfl, rfl⟩))))
  | _ => exact .inl rfl

theorem launch_state (w : BitVec 32) (s : State) : (launch w s).state = .idle := by
  obtain ⟨c, hrefused⟩ | haccepted := launch_cases w s
  · rw [hrefused]; rfl
  · rw [haccepted]; rfl

/-- A command performed as one operation ends in a STATE that the host can see (10_state.md R25). -/
theorem command_state_mem (hs : s.Inv) (hr : s.run = false) (w : BitVec 32) :
    (command Config.E w s).state ∈ [StateCode.idle, .sealed, .opened, .rejected] := by
  obtain ⟨-, -, -, -, hstate⟩ := (State.inv_iff_idle (command_run hr w)).1 (command_inv hs hr w)
  exact hstate

/-- What an operation issued to a core at rest does to STATE. -/
theorem exec_state_cases {i : Instr} {r : Request} (hs : s.Inv) (hr : s.run = false) (hi : encode i = .request r)
    (h : exec i s = .next t) :
    t.state = s.state ∨ (i = .reset ∧ t.state = .idle) ∨ ((∃ w, i = .wrCmd w) ∧ t.state = .idle) ∨
      ((∃ w, r = .cmd w) ∧ t.state ∈ [StateCode.idle, .sealed, .opened, .rejected]) := by
  cases i with
  | sealCmd _ _ | openCmd _ _ =>
    cases h
    cases hi
    rw [State.hostOp_idle hr]
    exact .inr (.inr (.inr ⟨⟨_, rfl⟩, command_state_mem hs hr _⟩))
  | wrCmd w =>
    cases h
    rw [State.hostOp_idle hr]
    exact .inr (.inr (.inl ⟨⟨w, rfl⟩, launch_state w s⟩))
  | reset => cases h; exact .inr (.inl ⟨rfl, rfl⟩)
  | validate => cases h; rw [validate_eq_reportCause]; cases s.invalidCause <;> exact .inl rfl
  | wrb sp off b => cases h; rw [State.hostOp_idle hr]; cases sp <;> exact .inl rfl
  | rd _ | rdKey | rdbIn _ _ | rdbDout _ | wrKey _ | wrNlen _ | wrAlen _ | wrTlen _ | wrTagin _ | wrStatus _
  | wrTagout _ _ => cases h; rw [State.hostOp_idle hr]; exact .inl rfl
  | gfmul _ _ | inc32 _ | ecall _ => cases h; exact .inl rfl
  | deriveH | j096 | nghInit | nghAbsorb | nghLen | j0Take | ctrInit | ksBlock | xorText | ghInit | ghAad | ghCt | ghLen
  | maskJ0 | tagForm | tagEmit | tagCmp | release | zeroize | cleanup => cases hi

end

/-- Settles O56: a step waits, resets, runs one of the five micro-operations that set STATE, each from the one STATE it
can find, or performs a reset, a launch or a whole command. -/
theorem stateFollowsItsEdges : Obligations.StateFollowsItsEdges := by
  intro s t hs hstep hne
  obtain ⟨-, -, rfl⟩ | ⟨hr, harrived, rfl⟩ | ⟨hr, -, ⟨u, hu⟩, rfl⟩ | ⟨hr, r, rest, i, hpending, hi, hexec⟩ :=
    step_next_cases hstep
  · exact absurd rfl hne
  · exact .inr (.inl ⟨.inl ⟨hr, List.contains_iff_mem.1 harrived⟩, rfl⟩)
  · have hphase := Uop.ofCode_eq_some hu
    obtain ⟨-, hfits⟩ := (State.inv_iff_running hr hphase).1 hs
    have hfound := hfits.stateFits
    rw [seqStep_of_ofCode hu, State.advance_state] at hne ⊢
    obtain hsame | ⟨rfl, hto⟩ | ⟨rfl, hto⟩ | ⟨rfl, hto⟩ | ⟨rfl, hto⟩ | ⟨rfl, hto⟩ := uopEffect_state_cases Config.E u s
    · exact absurd hsame hne
    · exact .inr (.inr (.inl ⟨hr, hphase, List.mem_singleton.1 hfound, hto⟩))
    · exact .inr (.inr (.inr (.inl ⟨hr, hphase, List.mem_singleton.1 hfound, hto⟩)))
    · exact .inr (.inr (.inr (.inr (.inl ⟨hr, hphase, List.mem_singleton.1 hfound, hto⟩))))
    · exact .inr (.inr (.inr (.inr (.inr (.inl ⟨hr, hphase, List.mem_singleton.1 hfound, hto⟩)))))
    · exact .inr (.inr (.inr (.inr (.inr (.inr (.inl ⟨hr, hphase, List.mem_singleton.1 hfound, hto⟩))))))
  · have hrest : (s.withPending rest).Inv := State.withPending_inv.2 hs
    obtain hcode | ⟨w, rfl, rfl⟩ := requestInstr_cases hi
    · obtain hsame | ⟨rfl, hto⟩ | ⟨⟨w, rfl⟩, hto⟩ | ⟨⟨w, rfl⟩, hto⟩ := exec_state_cases hrest hr hcode hexec
      · exact absurd hsame hne
      · cases hcode; exact .inr (.inl ⟨.inr ⟨hr, rest, hpending⟩, hto⟩)
      · cases hcode; exact .inl ⟨hr, hto, _, rest, hpending⟩
      · exact .inr (.inr (.inr (.inr (.inr (.inr (.inr ⟨hr, ⟨w, rest, hpending⟩, hto⟩))))))
    · obtain hsame | ⟨hreset, -⟩ | ⟨-, hto⟩ | ⟨⟨_, hcmd⟩, -⟩ := exec_state_cases hrest hr rfl hexec
      · exact absurd hsame hne
      · cases hreset
      · exact .inr (.inr (.inr (.inr (.inr (.inr (.inr ⟨hr, ⟨w, rest, hpending⟩, by rw [hto]; decide⟩))))))
      · cases hcmd

/-! ## SEAL and OPEN as functions (R160, R161) -/

/-- Settles O44: SEAL by its function, and the bytes of DOUT by the text under the keystream. -/
theorem sealComputesCiphertextAndTag : Obligations.SealComputesCiphertextAndTag := fun _ _ s hs hr hacc =>
  ⟨_, exec_sealCmd hs hr hacc, rfl, s.textOut_byte _⟩

/-- Settles O45: OPEN by its function, in the case of a tag that agrees and of one that does not. -/
theorem openVerifiesAndDecrypts : Obligations.OpenVerifiesAndDecrypts := by
  intro tagbits klen s hs hr hacc
  by_cases htag : tagsAgree (s.fullTag Config.E (s.inByte .din)) s.tagin (tagbits.toNat / 8)
  · exact ⟨_, exec_openCmd_accepts hs hr hacc htag, fun _ => ⟨rfl, s.textOut_byte _⟩, fun h => absurd htag h⟩
  · exact ⟨_, exec_openCmd_rejects hs hr hacc htag, fun h => absurd h htag, fun _ => ⟨rfl, fun _ => rfl⟩⟩

/-- The keystream of the same key and nonce, applied to what it gave, gives back the text. -/
theorem State.SameKeyAndNonce.outTextByte_outTextByte {E : Block → Block → Block} {r s : State} {off : Nat}
    (h : r.SameKeyAndNonce s) (hdin : r.inByte .din off = s.outTextByte E off) :
    r.outTextByte E off = s.inByte .din off := by
  rw [State.outTextByte, hdin, h.key, h.preCounterBlock, State.outTextByte, BitVec.xor_assoc, BitVec.xor_self,
    BitVec.xor_zero]

/-- Settles O46: the receiver computes the tag of the SEAL, which its TAGIN holds, and takes the same keystream off. -/
theorem openInvertsSeal : Obligations.OpenInvertsSeal := by
  intro tagbits klen s t r hsInv hs hsacc hseal hrInv hr hkey hvalid hnlen halen htlen hmax hnonce haad hdin htagin
  rw [exec_sealCmd hsInv hs hsacc] at hseal
  cases hseal
  have hsame : r.SameKeyAndNonce s := ⟨hkey, hnlen, hnonce⟩
  have hct (k : Nat) (hk : k < s.tlen.toNat) : r.inByte .din k = s.outTextByte Config.E k :=
    (hdin k hk).trans ((s.textOut_byte _ k).trans (if_pos hk))
  have hracc : r.acceptsCommand tagbits klen := by
    obtain ⟨hklen, -, hpos, -, htagSet, htext, haadMax⟩ := hsacc
    exact ⟨hklen, hvalid, hnlen ▸ hpos, hnlen ▸ hmax, htagSet, htlen ▸ htext, halen ▸ haadMax⟩
  have hagree : tagsAgree (r.fullTag Config.E (r.inByte .din)) r.tagin (tagbits.toNat / 8) := by
    intro k hk
    have hk16 : k < 16 := hk.trans_le hsacc.tagBytes_le
    rw [hsame.fullTag halen htlen haad hct, htagin k hk]
    exact ((byteAt_trunc _ _ _ hk16).trans (if_pos hk)).symm
  refine ⟨rfl, _, exec_openCmd_accepts hrInv hr hracc hagree, rfl, rfl, fun off hoff => ?_⟩
  calc (memLookup (r.textOut Config.E (cmdWord opOpen tagbits klen)) off).getD 0#8
      = r.outTextByte Config.E off := (r.textOut_byte _ off).trans (if_pos (htlen ▸ hoff))
    _ = s.inByte .din off := hsame.outTextByte_outTextByte (hct off hoff)

end Sys2Proof.Machine

/-! PROOFS. The statements of 45_host_access.md: what a step runs, the hold while RUN = 1, the register and buffer
accesses, the launch, and a command as one operation against its steps. -/

namespace Sys2Proof.Machine

open Sys2Proof

/-! ## What a step runs (R190) -/

theorem requestInstr_of_decode {r : Request} {i : Instr} (h : decode (.request r) = .ok i) :
    requestInstr r = some i := by
  rw [requestInstr, h]

/-- A reserved command word is launched (30_encoding.md R67(a)). -/
theorem requestInstr_of_reserved {r : Request} {w : BitVec 32}
    (h : decode (.request r) = .rejected (.reservedCommand w)) : requestInstr r = some (.wrCmd w) := by
  rw [requestInstr, h]

theorem step_issued {s : State} {r : Request} {rest : List Request} {i : Instr} (hr : s.run = false)
    (hpending : s.pending = r :: rest) (hi : requestInstr r = some i) : step s = exec i (s.withPending rest) := by
  simp only [step, fetch, hr, hpending, hi, Bool.false_eq_true, if_false]

theorem step_waiting {s : State} (hr : s.run = false) (hpending : s.pending = []) : step s = .next s := by
  simp only [step, fetch, hr, hpending, Bool.false_eq_true, if_false]

/-- Settles O5: an idle core performs the instruction of its oldest request or waits, and a running one makes a step of
the sequencer. -/
theorem stepRunsDecodedInstruction : Obligations.StepRunsDecodedInstruction := by
  refine ⟨fun s r rest i hr hpending hdecode => ?_, fun s w rest hr hpending hdecode => ?_,
    fun s i hr hreset hdecode => ?_, fun s hr hpending => step_waiting hr hpending⟩
  · exact step_issued hr hpending (requestInstr_of_decode hdecode)
  · exact step_issued hr hpending (requestInstr_of_reserved hdecode)
  · obtain ⟨u, hphase, rfl⟩ := decode_phase_ok hdecode
    have hcode : Uop.ofCode s.phase = some u := hphase ▸ Uop.ofCode_code u
    refine ⟨u, uopEffect Config.E u s, hcode, rfl, exec_toInstr u s, ?_⟩
    rw [step_running hr hreset hphase, seqStep_of_ofCode hcode]

/-! ## The hold (R190) -/

/-- Every operation of the host but a reset is performed or held as the request it is encoded as. -/
theorem exec_eq_hostOp {i : Instr} {r : Request} (hi : encode i = .request r) (hhost : r.isHost = true)
    (hreset : r ≠ .reset) (s : State) : ∃ t, exec i s = .next (s.hostOp r t) := by
  cases i with
  | sealCmd _ _ | openCmd _ _ | rd _ | rdKey | wrKey _ | wrNlen _ | wrAlen _ | wrTlen _ | wrTagin _ | wrStatus _
  | wrTagout _ _ | wrCmd _ | wrb _ _ _ | rdbIn _ _ | rdbDout _ => cases hi; exact ⟨_, rfl⟩
  | validate | gfmul _ _ | inc32 _ | ecall _ => cases hi; cases hhost
  | reset => cases hi; exact absurd rfl hreset
  | deriveH | j096 | nghInit | nghAbsorb | nghLen | j0Take | ctrInit | ksBlock | xorText | ghInit | ghAad | ghCt | ghLen
  | maskJ0 | tagForm | tagEmit | tagCmp | release | zeroize | cleanup => cases hi

/-- What the host owns beside the registers of `State.SameCommand`: the operations issued, the answers given, TAGIN and
the input buffers (20_memory.md R53). -/
structure State.SameHostSide (t s : State) : Prop where
  pending : t.pending = s.pending
  rdLog : t.rdLog = s.rdLog
  tagin : t.tagin = s.tagin
  nonce : t.nonce = s.nonce
  aad : t.aad = s.aad
  din : t.din = s.din
  epoch : t.epoch = s.epoch

theorem uopEffect_sameHostSide (E : Block → Block → Block) (u : Uop) (s : State) :
    (uopEffect E u s).SameHostSide s := by
  cases u with
  | deriveH =>
    obtain ⟨-, h⟩ | h := uopEffect_deriveH_cases E s <;> rw [h] <;> exact ⟨rfl, rfl, rfl, rfl, rfl, rfl, rfl⟩
  | _ => exact ⟨rfl, rfl, rfl, rfl, rfl, rfl, rfl⟩

theorem State.SameHostSide.advance {t s : State} (h : t.SameHostSide s) (u : Uop) (i : BitVec 64) :
    (t.advance u i).SameHostSide s :=
  ⟨(t.advance_pending u i).trans h.pending, (t.advance_rdLog u i).trans h.rdLog, (t.advance_tagin u i).trans h.tagin,
    (t.advance_nonce u i).trans h.nonce, (t.advance_aad u i).trans h.aad, (t.advance_din u i).trans h.din,
    (t.advance_epoch u i).trans h.epoch⟩

theorem seqStep_sameHostSide (E : Block → Block → Block) (s : State) : (seqStep E s).SameHostSide s := by
  unfold seqStep
  split
  · next u _ => exact (uopEffect_sameHostSide E u s).advance u s.idx
  · exact ⟨rfl, rfl, rfl, rfl, rfl, rfl, rfl⟩

/-- Settles O6: a running core holds every operation of the host, and its own step is one of the sequencer, which writes
neither the command's inputs nor what was issued and answered. -/
theorem hostIsHeldWhileRunning : Obligations.HostIsHeldWhileRunning := by
  refine ⟨fun s i r hr hi hhost hreset => ?_, fun s t hr hreset hstep => ?_⟩
  · obtain ⟨t, hexec⟩ := exec_eq_hostOp hi hhost hreset s
    rw [hexec, State.hostOp_running hr]
    rfl
  · obtain ⟨-, -, rfl⟩ := step_running_next hr hreset hstep
    have hside := seqStep_sameHostSide Config.E s
    have hcommand := seqStep_sameCommand Config.E s
    exact ⟨hside.pending, hside.rdLog, hcommand.key, hcommand.keyValid, hside.tagin, hcommand.cmd, hcommand.nlen,
      hcommand.alen, hcommand.tlen, hside.nonce, hside.aad, hside.din, hside.epoch⟩

/-! ## The operations of the host, performed while RUN = 0 -/

section
variable {s : State}

theorem exec_performed {i : Instr} {r : Request} {t : State} (hr : s.run = false)
    (h : exec i s = .next (s.hostOp r t)) : exec i s = .next t := by
  rw [h, State.hostOp_idle hr]

theorem exec_rd (hr : s.run = false) (reg : Nat) : exec (.rd reg) s = .next (s.answer (s.regRead reg)) :=
  exec_performed hr rfl

theorem exec_rdKey (hr : s.run = false) : exec .rdKey s = .next (s.answer 0#128) := exec_performed hr rfl

theorem exec_rdbIn (hr : s.run = false) (sp : InSpace) (off : BitVec 64) :
    exec (.rdbIn sp off) s = .next (s.answer ((s.inByte sp off.toNat).setWidth 128)) :=
  exec_performed hr rfl

theorem exec_rdbDout (hr : s.run = false) (off : BitVec 64) :
    exec (.rdbDout off) s = .next (s.answer ((s.gatedDout off.toNat).setWidth 128)) :=
  exec_performed hr rfl

theorem exec_wrb (hr : s.run = false) (sp : Space) (off : BitVec 64) (b : Byte) :
    exec (.wrb sp off b) s = .next (s.hostWriteByte sp off.toNat b) :=
  exec_performed hr rfl

/-- Register numbers 8 and above read as zero (R191). -/
theorem State.regRead_of_eight_le (s : State) {reg : Nat} (h : 8 ≤ reg) : s.regRead reg = 0#128 := by
  obtain ⟨n, rfl⟩ := Nat.exists_eq_add_of_le' h
  rfl

/-- A byte keeps its value where it is answered as a Block (assumption log 9). -/
theorem answeredByte_toNat (b : Byte) : (b.setWidth 128).toNat = b.toNat := BitVec.toNat_setWidth_of_le (by decide)

theorem State.gatedDout_open {off : Nat} (h : (s.state = .sealed ∨ s.state = .opened) ∧ off < s.tlen.toNat) :
    s.gatedDout off = s.doutByte off := if_pos h

theorem State.gatedDout_closed {off : Nat} (h : ¬ ((s.state = .sealed ∨ s.state = .opened) ∧ off < s.tlen.toNat)) :
    s.gatedDout off = 0#8 := if_neg h

/-- Without a success there is nothing behind the gate (R199). -/
theorem State.Inv.doutByte_eq_zero (hs : s.Inv) (hr : s.run = false) (hsealed : s.state ≠ .sealed)
    (hopened : s.state ≠ .opened) (off : Nat) : s.doutByte off = 0#8 := by
  obtain ⟨-, -, -, hgated, -⟩ := (State.inv_iff_idle hr).1 hs
  exact hgated hsealed hopened off

/-- A host write changes the input buffers only (R197, R198). -/
theorem State.hostWriteByte_eq (s : State) (sp : Space) (off : Nat) (b : Byte) :
    s.hostWriteByte sp off b = { s with
      nonce := (s.hostWriteByte sp off b).nonce, aad := (s.hostWriteByte sp off b).aad,
      din := (s.hostWriteByte sp off b).din } := by
  cases sp <;> rfl

/-- The launch is the erasure and VALIDATE, then the first position where VALIDATE found nothing (R196). -/
theorem launch_eq_validate (w : BitVec 32) (s : State) :
    launch w s =
      if (validate (s.beginLaunch w)).err = .invalidInput then validate (s.beginLaunch w)
      else { (validate (s.beginLaunch w)).setSeq .deriveH 0#64 with run := true } := by
  rw [validate_eq_reportCause]
  cases hcause : (s.beginLaunch w).invalidCause with
  | some c => exact launch_refused hcause
  | none => exact launch_accepted hcause

/-- SEAL and OPEN, performed, are the whole command of their word (44_aead_orchestrator.md R160, R161). -/
theorem exec_command {i : Instr} {w : BitVec 32} (hr : s.run = false) (hi : encode i = .request (.cmd w)) :
    exec i s = .next (command Config.E w s) := by
  cases i with
  | sealCmd _ _ | openCmd _ _ => cases hi; exact exec_performed hr rfl
  | _ => cases hi

end

/-! ## The obligations -/

/-- Settles O37: the write is to one of the three buffers, and the byte read back is the written one there only. -/
theorem hostWritesOneByte : Obligations.HostWritesOneByte := fun sp off b s hr =>
  ⟨_, exec_wrb hr sp.toSpace off b, s.hostWriteByte_eq sp.toSpace off.toNat b,
    fun sp' x => s.hostWriteByte_inByte sp sp' off.toNat b x⟩

/-- Settles O43: a refused launch leaves RUN = 0 and no step to make, and after an accepted one the steps of the machine
are the run of the sequencer that the one operation is. -/
theorem wholeCommandIsItsSteps : Obligations.WholeCommandIsItsSteps := by
  intro w i s hr hreset hdecode
  refine ⟨launch w s, command Config.E w s, exec_wrCmd hr w, exec_command hr (encode_of_decodeRequest hdecode),
    command_run hr w, ?_⟩
  cases hcause : (s.beginLaunch w).invalidCause with
  | some c =>
    have hidle : (launch w s).run = false := by rw [launch_refused hcause]; exact hr
    rw [hidle, command, runSeq_idle hidle]
    rfl
  | none =>
    have hrun : (launch w s).run = true := by rw [launch_accepted hcause]
    have hpending : (launch w s).pending = s.pending := by rw [launch_accepted hcause]; rfl
    have hleft := launch_remaining hcause
    rw [← Nat.zero_add (launch w s).commandSteps] at hleft
    rw [if_pos hrun, State.countedSteps_eq]
    exact hleft.core_run (by rwa [hpending])

/-- Settles O30: the launch by its erasure and VALIDATE. -/
theorem launchErasesValidatesStarts : Obligations.LaunchErasesValidatesStarts := fun w s hr =>
  ⟨s.beginLaunch w, validate (s.beginLaunch w), rfl, fun _ => rfl, rfl,
    (exec_wrCmd hr w).trans (congrArg Host.Outcome.next (launch_eq_validate w s))⟩

/-- Settles O32: each register number by the table of reads. -/
theorem registerReadsReturn : Obligations.RegisterReadsReturn := by
  intro s hr
  refine ⟨exec_rd hr 0, exec_rd hr 1, exec_rdKey hr, exec_rd hr 2, exec_rd hr 3, exec_rd hr 4, exec_rd hr 5,
    exec_rd hr 6, exec_rd hr 7, fun reg hreg => ?_⟩
  rw [exec_rd hr, s.regRead_of_eight_le hreg]
  rfl

/-- Settles O34: the write is performed, since RUN = 0. -/
theorem writeKeyDropsTheSubkey : Obligations.WriteKeyDropsTheSubkey := fun _ _ hr => exec_performed hr rfl

/-- Settles O35: each of the four writes is performed, since RUN = 0. -/
theorem writeLengthsAndTag : Obligations.WriteLengthsAndTag := fun _ _ _ hr =>
  ⟨exec_performed hr rfl, exec_performed hr rfl, exec_performed hr rfl, exec_performed hr rfl⟩

/-- Settles O36: what is performed leaves the state as it is. -/
theorem ignoredWrites : Obligations.IgnoredWrites := fun _ _ _ _ hr => ⟨exec_performed hr rfl, exec_performed hr rfl⟩

/-- Settles O38: the answer is the byte that the input buffer holds, and a write to DOUT is to no buffer of the host. -/
theorem inputReadIsUngated : Obligations.InputReadIsUngated := fun sp off b _ hr =>
  ⟨⟨_, exec_rdbIn hr sp off, answeredByte_toNat _⟩, exec_wrb hr .dout off b⟩

/-- Settles O39: the answer is the gated byte, on both sides of the gate; the last clause is one of the invariant at
rest. -/
theorem outputReadIsGated : Obligations.OutputReadIsGated := by
  intro off s hr
  refine ⟨_, exec_rdbDout hr off, fun hstate hoff => ?_, fun hclosed => ?_,
    fun hs hsealed hopened => hs.doutByte_eq_zero hr hsealed hopened⟩
  · rw [answeredByte_toNat, State.gatedDout_open ⟨hstate, hoff⟩]
  · rw [State.gatedDout_closed hclosed]
    rfl

end Sys2Proof.Machine

/-! PROOFS. The statements of 60_exceptions.md: where a step stops, what a refused command leaves, what a failed OPEN
shows, and what changes ERR and CAUSE. -/

namespace Sys2Proof.Machine

open Sys2Proof

/-! ## Where a step stops (R210) -/

section
variable {s : State}

theorem step_resetArrived (hr : s.run = true) (hreset : Request.reset ∈ s.pending) :
    step s = .next s.takeReset.resetEvent := by
  have harrived : s.resetArrived = true := List.contains_iff_mem.2 hreset
  simp only [step, fetch, hr, harrived, if_true]
  rfl

theorem step_malformed {r : Request} {rest : List Request} (hr : s.run = false) (hpending : s.pending = r :: rest)
    (hnone : requestInstr r = none) : step s = .refused .malformedRequest := by
  simp only [step, fetch, hr, hpending, hnone, Bool.false_eq_true, if_false]

/-- Every command word is an operation or is launched (30_encoding.md R67(a)). -/
theorem requestInstr_cmd (w : BitVec 32) : ∃ i, requestInstr (.cmd w) = some i := by
  by_cases hreserved : cmdRsv w ≠ 0#8 ∨ (cmdOp w ≠ opSeal ∧ cmdOp w ≠ opOpen)
  · exact ⟨_, requestInstr_of_reserved (r := .cmd w) (decodeCmd_reserved hreserved)⟩
  · obtain ⟨hrsv, hop⟩ := not_or.1 hreserved
    by_cases hseal : cmdOp w = opSeal
    · exact ⟨_, requestInstr_of_decode (r := .cmd w) (decodeCmd_seal (not_not.1 hrsv) hseal)⟩
    · have hopen : cmdOp w = opOpen := not_not.1 fun h => hop ⟨hseal, h⟩
      exact ⟨_, requestInstr_of_decode (r := .cmd w) (decodeCmd_open (not_not.1 hrsv) hopen)⟩

end

/-- Settles O8: a running core of the invariant has a reset to take or a micro-operation to do, and an idle one waits or
performs its oldest request, whatever operation that is. -/
theorem stepStopsOnlyOnMalformedRequest : Obligations.StepStopsOnlyOnMalformedRequest := by
  intro s hs
  cases hr : s.run with
  | true =>
    by_cases hreset : Request.reset ∈ s.pending
    · exact .inl ⟨_, step_resetArrived hr hreset⟩
    · obtain ⟨u, hu⟩ := hs.position hr
      exact .inl ⟨_, step_running hr hreset hu⟩
  | false =>
    cases hpending : s.pending with
    | nil => exact .inl ⟨s, step_waiting hr hpending⟩
    | cons r rest =>
      cases hi : requestInstr r with
      | some i =>
        rw [step_issued hr hpending hi]
        exact .inl (exec_answers_next i _)
      | none =>
        refine .inr ⟨step_malformed hr hpending hi, rfl, r, rest, rfl, fun i hdecode => ?_, ?_⟩
        · rw [requestInstr_of_decode hdecode] at hi
          cases hi
        · rintro w rfl
          obtain ⟨i, hcmd⟩ := requestInstr_cmd w
          rw [hcmd] at hi
          cases hi

/-! ## A refused command (R214) -/

/-- A command whose launch is refused is its launch, since no micro-operation runs. -/
theorem command_refused {E : Block → Block → Block} {s : State} {w : BitVec 32} {c : Cause} (hr : s.run = false)
    (hc : (s.beginLaunch w).invalidCause = some c) :
    command E w s = (s.beginLaunch w).takeException .invalidInput c := by
  have hidle : (launch w s).run = false := by rw [launch_refused hc]; exact hr
  rw [command, runSeq_idle hidle, launch_refused hc]

/-- The erasure clears ERR, so that VALIDATE leaves it set only by a failing check. -/
theorem invalidCause_of_validate_err {s : State} {w : BitVec 32}
    (herr : (validate (s.beginLaunch w)).err = .invalidInput) : ∃ c, (s.beginLaunch w).invalidCause = some c := by
  cases hc : (s.beginLaunch w).invalidCause with
  | some c => exact ⟨c, rfl⟩
  | none =>
    rw [validate_eq_reportCause, hc] at herr
    cases herr

/-- Settles O31: both forms of the launch end in the erased state with the failing check's cause. -/
theorem refusedCommandOnlyErases : Obligations.RefusedCommandOnlyErases := by
  intro w s v hr hvalidate herr
  obtain rfl : validate (s.beginLaunch w) = v := Host.Outcome.next.inj hvalidate
  obtain ⟨c, hc⟩ := invalidCause_of_validate_err herr
  rw [validate_eq_reportCause, hc]
  refine ⟨rfl, State.invalidCause_ne_none hc, ?_, fun i hdecode => ?_⟩
  · rw [exec_wrCmd hr, launch_refused hc]
    rfl
  · rw [exec_command hr (encode_of_decodeRequest hdecode), command_refused hr hc]
    rfl

/-! ## A failed OPEN (R215) -/

/-- What passes every check of VALIDATE is accepted. -/
theorem State.acceptsCommand_of_invalidCause {s : State} (h : s.invalidCause = none) :
    s.acceptsCommand (cmdTagbits s.cmd) (cmdKlen s.cmd) := by
  unfold State.invalidCause at h
  split_ifs at h with _ hkey hnonce hmax htag htext haad
  obtain ⟨hklen, hvalid⟩ := not_or.1 hkey
  exact ⟨not_not.1 hklen, Bool.eq_true_of_not_eq_false hvalid, Nat.pos_of_ne_zero hnonce, not_lt.1 hmax,
    htag, not_lt.1 htext, not_lt.1 haad⟩

section
variable {tagbits klen : Byte} {s t : State}

/-- An OPEN that ended Rejected had passed validation: a refused one ends Idle. -/
theorem acceptsCommand_of_rejected (hr : s.run = false) (hexec : exec (.openCmd tagbits klen) s = .next t)
    (hrejected : t.state = .rejected) : s.acceptsCommand tagbits klen := by
  cases hc : (s.beginLaunch (cmdWord opOpen tagbits klen)).invalidCause with
  | some c =>
    rw [exec_command hr rfl, command_refused hr hc] at hexec
    cases hexec
    cases hrejected
  | none =>
    have hacc := State.acceptsCommand_of_invalidCause hc
    rwa [State.beginLaunch_cmd, cmdTagbits_cmdWord, cmdKlen_cmdWord] at hacc

/-- The end of a rejected OPEN, in which the tags do not appear. -/
theorem eq_afterCommand_of_rejected (hs : s.Inv) (hr : s.run = false)
    (hexec : exec (.openCmd tagbits klen) s = .next t) (hrejected : t.state = .rejected) :
    t = s.afterCommand Config.E (cmdWord opOpen tagbits klen) .rejected .authFailure [] 0#128 := by
  rw [exec_openCmd hs hr (acceptsCommand_of_rejected hr hexec hrejected)] at hexec
  split at hexec
  · cases hexec
    cases hrejected
  · exact (Host.Outcome.next.inj hexec).symm

/-- What the host can read of an OPEN that failed. -/
theorem rejected_results (hs : s.Inv) (hr : s.run = false) (hexec : exec (.openCmd tagbits klen) s = .next t)
    (hrejected : t.state = .rejected) :
    t.status = 0x00030025#32 ∧ t.tagout = 0#128 ∧ ∀ off, t.doutByte off = 0#8 ∧ t.gatedDout off = 0#8 := by
  obtain ⟨-, hkey, -⟩ := acceptsCommand_of_rejected hr hexec hrejected
  obtain rfl := eq_afterCommand_of_rejected hs hr hexec hrejected
  refine ⟨?_, rfl, fun off => ⟨rfl, ite_self _⟩⟩
  simp only [State.status, State.afterCommand, hkey]
  rfl

end

/-- Settles O49: what the host can read of a failed OPEN is the same for every state it was launched in. -/
theorem failedOpensLookAlike : Obligations.FailedOpensLookAlike := by
  intro tagbits klen s r t u hsInv hrInv hs hr hexec hexec' hrejected hrejected'
  obtain ⟨hstatus, htagout, hdout⟩ := rejected_results hsInv hs hexec hrejected
  obtain ⟨hstatus', htagout', hdout'⟩ := rejected_results hrInv hr hexec' hrejected'
  refine ⟨hstatus, hstatus', htagout, htagout', fun off => ?_⟩
  obtain ⟨hbyte, hgated⟩ := hdout off
  obtain ⟨hbyte', hgated'⟩ := hdout' off
  exact ⟨hbyte, hbyte', hgated.trans hgated'.symm⟩

/-! ## ERR and CAUSE (R217, 10_state.md R26) -/

section
variable {s t : State}

/-- Both exception fields keep their values. -/
def State.sameError (t s : State) : Prop := t.err = s.err ∧ t.cause = s.cause

/-- ZEROIZE is the only micro-operation that takes an exception. -/
theorem uopEffect_error_cases (E : Block → Block → Block) (u : Uop) (s : State) :
    (uopEffect E u s).sameError s ∨ u = .zeroize := by
  cases u with
  | deriveH => obtain ⟨-, h⟩ | h := uopEffect_deriveH_cases E s <;> rw [h] <;> exact .inl ⟨rfl, rfl⟩
  | zeroize => exact .inr rfl
  | _ => exact .inl ⟨rfl, rfl⟩

theorem seqStep_error_cases {u : Uop} (E : Block → Block → Block) (hu : Uop.ofCode s.phase = some u) :
    (seqStep E s).sameError s ∨ u = .zeroize := by
  rw [seqStep_of_ofCode hu, State.sameError, State.advance_err, State.advance_cause]
  exact uopEffect_error_cases E u s

/-- What an operation issued to a core at rest does to ERR and CAUSE: nothing, but for RESET, VALIDATE and the two forms
of the launch. -/
theorem exec_error_cases {i : Instr} {r : Request} (hr : s.run = false) (hi : encode i = .request r)
    (h : exec i s = .next t) :
    t.sameError s ∨ i = .reset ∨ i = .validate ∨ (∃ w, i = .wrCmd w) ∨ ∃ w, r = .cmd w := by
  cases i with
  | reset => exact .inr (.inl rfl)
  | validate => exact .inr (.inr (.inl rfl))
  | wrCmd w => exact .inr (.inr (.inr (.inl ⟨w, rfl⟩)))
  | sealCmd _ _ | openCmd _ _ => cases hi; exact .inr (.inr (.inr (.inr ⟨_, rfl⟩)))
  | wrb sp off b => cases h; rw [State.hostOp_idle hr]; cases sp <;> exact .inl ⟨rfl, rfl⟩
  | rd _ | rdKey | rdbIn _ _ | rdbDout _ | wrKey _ | wrNlen _ | wrAlen _ | wrTlen _ | wrTagin _ | wrStatus _
  | wrTagout _ _ => cases h; rw [State.hostOp_idle hr]; exact .inl ⟨rfl, rfl⟩
  | gfmul _ _ | inc32 _ | ecall _ => cases h; exact .inl ⟨rfl, rfl⟩
  | deriveH | j096 | nghInit | nghAbsorb | nghLen | j0Take | ctrInit | ksBlock | xorText | ghInit | ghAad | ghCt | ghLen
  | maskJ0 | tagForm | tagEmit | tagCmp | release | zeroize | cleanup => cases hi

end

/-- Settles O57: a step that changes ERR or CAUSE is a reset, a ZEROIZE, or performs a request that is encoded as a
reset, a VALIDATE, a launch or a command word. -/
theorem errorIsStickyUntilTheNextLaunch : Obligations.ErrorIsStickyUntilTheNextLaunch := by
  intro s t hstep hne
  have hchanged : ¬ t.sameError s := fun ⟨herr, hcause⟩ => hne.elim (absurd herr) (absurd hcause)
  obtain ⟨-, -, rfl⟩ | ⟨hr, harrived, rfl⟩ | ⟨hr, -, ⟨u, hu⟩, rfl⟩ | ⟨hr, r, rest, i, hpending, hi, hexec⟩ :=
    step_next_cases hstep
  · exact absurd ⟨rfl, rfl⟩ hchanged
  · exact .inl (.inl ⟨hr, List.contains_iff_mem.1 harrived⟩)
  · obtain hsame | rfl := seqStep_error_cases Config.E hu
    · exact absurd hsame hchanged
    · exact .inr (.inl ⟨hr, Uop.ofCode_eq_some hu⟩)
  · obtain hcode | ⟨w, rfl, -⟩ := requestInstr_cases hi
    · obtain hsame | rfl | rfl | ⟨w, rfl⟩ | ⟨w, rfl⟩ := exec_error_cases (s := s.withPending rest) hr hcode hexec
      · exact absurd hsame hchanged
      · cases hcode; exact .inl (.inr ⟨hr, rest, hpending⟩)
      · cases hcode; exact .inr (.inr ⟨hr, .inr (.inr ⟨rest, hpending⟩)⟩)
      · cases hcode; exact .inr (.inr ⟨hr, .inl ⟨_, rest, hpending⟩⟩)
      · exact .inr (.inr ⟨hr, .inr (.inl ⟨w, rest, hpending⟩)⟩)
    · exact .inr (.inr ⟨hr, .inr (.inl ⟨w, rest, hpending⟩)⟩)

end Sys2Proof.Machine

/-! PROOFS. The statement of 70_reset_and_hazards.md: what RESET leaves, and when one that was issued strikes. -/

namespace Sys2Proof.Machine

open Sys2Proof

/-! ## The reset event (R240) -/

/-- RESET asks neither RUN nor PHASE (70_reset_and_hazards.md R240). -/
theorem exec_reset (s : State) : exec .reset s = .next s.resetEvent := rfl

theorem State.resetEvent_doutByte (s : State) (off : Nat) : s.resetEvent.doutByte off = 0#8 := rfl

/-- A running core takes an arrived reset out of the operations issued, wherever it stands among them. -/
theorem step_reset_running {s : State} (hr : s.run = true) (hreset : Request.reset ∈ s.pending) :
    step s = exec .reset (s.withPending (s.pending.erase .reset)) :=
  (step_resetArrived hr hreset).trans (exec_reset s.takeReset).symm

/-- An idle core comes to a reset in its turn. -/
theorem step_reset_idle {s : State} {rest : List Request} (hr : s.run = false) (hpending : s.pending = .reset :: rest) :
    step s = exec .reset (s.withPending rest) :=
  step_issued hr hpending (requestInstr_of_decode (r := .reset) rfl)

/-- Settles O40: every field of the state after RESET by the definition of the reset event; a running core finds the
reset among the operations issued, an idle one performs it as its oldest. -/
theorem resetEventClears : Obligations.ResetEventClears := fun s =>
  ⟨s.resetEvent, exec_reset s, s.resetEvent_doutByte, rfl, rfl, rfl, rfl, rfl, rfl, rfl, rfl, rfl, rfl, rfl, rfl, rfl,
    rfl, rfl, rfl, rfl, rfl, rfl, rfl, rfl, rfl, rfl, s.resetEvent_pending, s.resetEvent_rdLog, s.resetEvent_unitOut,
    s.resetEvent_maxNonceBytes, step_reset_running, fun _ => step_reset_idle⟩

end Sys2Proof.Machine
